-- ==== Sys2Proof/Word.lean ====
section
/-! DEFINITION. The word types of the SWPC (spec/00_scope.md R10: bit 0 is least significant, every value is unsigned). -/

namespace Sys2Proof

/-- One 8-bit byte of the frame (R24). -/
abbrev Byte := BitVec 8

/-- A 16-bit decoded or raw value (R58). -/
abbrev Half := BitVec 16

/-- A host bus word, `DATA_W = 32` (R7, R41). -/
abbrev Word := BitVec 32

/-- The Raw Frame, 40 bits (R24). -/
abbrev Frame := BitVec 40

/-- The FSM state code, 4 bits (R18). -/
abbrev Code := BitVec 4

/-- The bus transaction word, 4 bits (R52). -/
abbrev Txn := BitVec 4

/-- The model's word for one row of the opcode table: operand, padding, format bit, 4-bit code
(layout: DESIGN CHOICE, assumption log 1). -/
abbrev TableWord := BitVec 40

end Sys2Proof
end

