-- ==== Sys2Proof/Machine/Fields.lean ====
section
/-! DEFINITION. The fields of a table word (assumption log 1), as the decoder and the well-formedness check read them. -/

namespace Sys2Proof

/-- The 4-bit code of a table word (R52, R55). -/
def wordCode (w : TableWord) : BitVec 4 := w.extractLsb' 0 4

/-- The format bit of a table word: 0 is `bus`, 1 is `fsm` (assumption log 1). -/
def wordIsFsm (w : TableWord) : Bool := w.getLsbD 4

/-- The padding of a table word (assumption log 1). -/
def wordPadding (w : TableWord) : BitVec 3 := w.extractLsb' 5 3

/-- The operand of a table word, `bus_wdata` on a write (R53). -/
def wordOperand (w : TableWord) : Word := w.extractLsb' 8 32

/-- Only a bus write carries an operand (R53); a table word of another kind has a zero operand. -/
def wordOperandAllowed (w : TableWord) : Bool :=
  (!wordIsFsm w && (wordCode w).getLsbD 3) || wordOperand w == 0#32

end Sys2Proof
end

