-- ==== Sys2Proof/Syntax.lean ====
section
/-! DEFINITION. The instructions of the SWPC, one constructor per row of spec/opcode_table.json (spec/00_scope.md R3, spec/30_encoding.md R54, R56), and the names of the host register words (spec/30_encoding.md R64). -/

namespace Sys2Proof

/-- The register words of the host address space, by name (R44, R64). -/
inductive Reg where
  | ctrl | status | reading | raw0 | raw1 | rsvd5 | rsvd6 | rsvd7
  deriving DecidableEq, Repr

/-- The two instruction formats of R3 that rows of the opcode table have. -/
inductive Format where
  | bus | fsm
  deriving DecidableEq, Repr

/-- An instruction: a host bus transaction, with its 32-bit operand on a write (R53), or the FSM operation
of a state code (R55). The rows whose code has free bits carry those bits. -/
inductive Instr where
  /-- RD_CTRL (R68). -/
  | rdCtrl
  /-- RD_STATUS (R69). -/
  | rdStatus
  /-- RD_READING (R70). -/
  | rdReading
  /-- RD_RAW0 (R71). -/
  | rdRaw0
  /-- RD_RAW1 (R72). -/
  | rdRaw1
  /-- RD_RSVD5 (R73). -/
  | rdRsvd5
  /-- RD_RSVD6 (R74). -/
  | rdRsvd6
  /-- RD_RSVD7 (R75). -/
  | rdRsvd7
  /-- WR_CTRL (R76). -/
  | wrCtrl (wdata : Word)
  /-- WR_STATUS (R77). -/
  | wrStatus (wdata : Word)
  /-- WR_READING (R78). -/
  | wrReading (wdata : Word)
  /-- WR_RAW0 (R79). -/
  | wrRaw0 (wdata : Word)
  /-- WR_RAW1 (R80). -/
  | wrRaw1 (wdata : Word)
  /-- WR_RSVD5 (R81). -/
  | wrRsvd5 (wdata : Word)
  /-- WR_RSVD6 (R82). -/
  | wrRsvd6 (wdata : Word)
  /-- WR_RSVD7 (R83). -/
  | wrRsvd7 (wdata : Word)
  /-- IDLE (R86). -/
  | idle
  /-- START_LOW (R87). -/
  | startLow
  /-- RELEASE (R88). -/
  | release
  /-- RESP (R89). -/
  | resp
  /-- ACK_LOW (R90). -/
  | ackLow
  /-- ACK_HIGH (R91). -/
  | ackHigh
  /-- BIT_LOW (R97). -/
  | bitLow
  /-- BIT_HIGH (R98). -/
  | bitHigh
  /-- CHECK (R104). -/
  | check
  /-- FSM_UNUSED_9 (R113). -/
  | fsmUnused9
  /-- FSM_UNUSED_10_11 (R113): code 0b101S. -/
  | fsmUnused10To11 (low : BitVec 1)
  /-- FSM_UNUSED_12_15 (R113): code 0b11SS. -/
  | fsmUnused12To15 (low : BitVec 2)
  deriving DecidableEq, Repr

end Sys2Proof
end

