-- ==== Sys2Proof/Config.lean ====
section
/-! DEFINITION. What an implementation of the SWPC fixes (spec/00_scope.md R7, spec/10_state.md R37) and the one value the spec leaves free (spec/10_state.md R33). -/

namespace Sys2Proof

namespace Config

/-- `T_TH_US`: the bit threshold in µs, fixed (R7). -/
def tThUs : Nat := 50

/-- `N_BITS`: data bits of one frame, fixed (R7). -/
def nBits : Nat := 40

/-- `N_BYTES`: bytes of one frame, fixed (R7). -/
def nBytes : Nat := 5

/-- `DIV`: the divisor of both extracted values, fixed (R7). -/
def div : Half := 10#16

/-- `SYNC_STAGES`: depth of the input synchronizer, fixed (R7). The two stages are the fields `sync1` and `lineS`. -/
def syncStages : Nat := 2

/-- The free line draw of R33: the level the pad has in cycle `n` when the SWPC does not pull it low
and no input record is listed for the cycle. Nothing is known of it (assumption log 4). -/
opaque lineDraw : Nat → Bool

end Config

/-- The build parameters of R7. The three OPEN ones (`clkPerUs`, `tcntW`, `minIntervalS`) have no default;
the others default to the value R7 gives. -/
structure Params where
  /-- `CLK_PER_US`, clock cycles per µs, OPEN. -/
  clkPerUs : Nat
  /-- `T_START_US`, length of the host start pulse in µs. -/
  tStartUs : Nat := 20000
  /-- `T_HS_US`, combined handshake window in µs. -/
  tHsUs : Nat := 1100
  /-- `T_BL_US`, data-bit low-phase window in µs. -/
  tBlUs : Nat := 200
  /-- `T_BH_US`, data-bit high-phase window in µs. -/
  tBhUs : Nat := 200
  /-- `TCNT_W`, width of the phase counter, OPEN. -/
  tcntW : Nat
  /-- `MIN_INTERVAL_S`, the host's inter-read interval in seconds, OPEN; a host duty, no block parameter.
  A whole number of seconds: DESIGN CHOICE, the spec says integer only of `CLK_PER_US` (assumption log 19). -/
  minIntervalS : Nat
  deriving DecidableEq, Repr

/-- The platform premises: the pad wiring of R138 and the sole owners of R145. -/
structure Platform where
  /-- The pad is open-drain and bidirectional. -/
  openDrain : Bool
  /-- A pull-up is present. -/
  pullUp : Bool
  /-- A pull-down is present (there must be none). -/
  pullDown : Bool
  /-- The pad raises interrupts (it must not). -/
  padInterrupt : Bool
  /-- No agent other than the SWPC and the sensor drives the line. -/
  soleDriver : Bool
  /-- Only one host issues STARTs. -/
  soleHost : Bool
  deriving DecidableEq, Repr

end Sys2Proof
end

