-- ==== Sys2Proof/Machine/Windows.lean ====
section
/-! DEFINITION. The timing windows in clock cycles (spec/00_scope.md R8). -/

namespace Sys2Proof

/-- `T_START_CYC = T_START_US * CLK_PER_US` (R8). -/
def Params.tStartCyc (p : Params) : Nat := p.tStartUs * p.clkPerUs

/-- `T_HS_CYC = T_HS_US * CLK_PER_US` (R8). -/
def Params.tHsCyc (p : Params) : Nat := p.tHsUs * p.clkPerUs

/-- `T_TH_CYC = T_TH_US * CLK_PER_US` (R8). -/
def Params.tThCyc (p : Params) : Nat := Config.tThUs * p.clkPerUs

/-- `T_BL_CYC = T_BL_US * CLK_PER_US` (R8). -/
def Params.tBlCyc (p : Params) : Nat := p.tBlUs * p.clkPerUs

/-- `T_BH_CYC = T_BH_US * CLK_PER_US` (R8). -/
def Params.tBhCyc (p : Params) : Nat := p.tBhUs * p.clkPerUs

/-- The bound the phase counter must hold: `max(T_START_CYC, T_HS_CYC + 4, T_BL_CYC, T_BH_CYC)` (R9, R22). -/
def Params.tcntBound (p : Params) : Nat :=
  max (max p.tStartCyc (p.tHsCyc + 4)) (max p.tBlCyc p.tBhCyc)

/-- `MIN_INTERVAL_S` in clock cycles: one second is 1000000 µs (R7, R144). That `MIN_INTERVAL_S` is a whole
number of seconds is the model's choice (DESIGN CHOICE, assumption log 19). -/
def Params.minIntervalCyc (p : Params) : Nat := p.minIntervalS * 1000000 * p.clkPerUs

end Sys2Proof
end

