-- ==== Sys2Proof/WellFormed.lean ====
section
/-! DEFINITION. Well-formedness: of a configuration (spec/00_scope.md R7, R9), of the platform (spec/70_reset_and_hazards.md R138, R145) and of a table word (assumption log 1). An `Instr` needs no check of its own: the types of its operands hold exactly the values its encoding admits (spec/30_encoding.md R52 to R56). -/

namespace Sys2Proof

/-- The conditions of R9 on a configuration, with the legal ranges R7 gives `T_HS_US` and `T_BL_US`
(those two: DEDUCED, assumption log 8). -/
abbrev Params.Wf (p : Params) : Prop :=
  1 ≤ p.clkPerUs ∧ 18000 ≤ p.tStartUs ∧ 1 ≤ p.tHsUs ∧ 1 ≤ p.tBlUs ∧
    Config.tThUs < p.tBhUs ∧ p.tcntBound < 2 ^ p.tcntW

/-- The pad is wired as R138 says: open drain, pull-up, no pull-down, no pad interrupt. -/
abbrev Platform.PadWired (q : Platform) : Prop :=
  q.openDrain = true ∧ q.pullUp = true ∧ q.pullDown = false ∧ q.padInterrupt = false

/-- The line and the SWPC have one owner each (R145). -/
abbrev Platform.Exclusive (q : Platform) : Prop :=
  q.soleDriver = true ∧ q.soleHost = true

/-- A table word is well-formed: zero padding, and an operand only where the format has one. -/
def TableWordWf (w : TableWord) : Bool := wordPadding w == 0#3 && wordOperandAllowed w

end Sys2Proof
end

