-- ==== Sys2Proof/Decode.lean ====
section
/-! DEFINITION. Decoding and encoding (spec/30_encoding.md R51 to R56, R61 to R63). The machine decodes a transaction word and a state code (`decodeBus`, `decodeFsm`), both total: every 4-bit word is an instruction. A table word puts a format bit beside the 4-bit code, because the two spaces overlap (assumption log 1). -/

namespace Sys2Proof

/-- Why a table word or a byte string is rejected. -/
inductive DecodeError where
  /-- The byte string is neither 1 byte (no operand) nor 5 bytes (operand of a write) long. -/
  | badLength
  /-- Bits 7:5 of the table word are not zero. -/
  | paddingNotZero
  /-- A bus read carries an operand. -/
  | operandOnRead
  /-- An FSM operation carries an operand. -/
  | operandOnFsm
  deriving DecidableEq, Repr

/-- What a decoder answers. -/
inductive Decoded where
  | ok (i : Instr)
  | rejected (why : DecodeError)
  deriving DecidableEq, Repr

/-- The instruction, where there is one. -/
def Decoded.instr : Decoded → Option Instr
  | .ok i => some i
  | .rejected _ => none

/-- The word index of a register (R44, R64). -/
def Reg.idx : Reg → BitVec 3
  | .ctrl => 0#3
  | .status => 1#3
  | .reading => 2#3
  | .raw0 => 3#3
  | .raw1 => 4#3
  | .rsvd5 => 5#3
  | .rsvd6 => 6#3
  | .rsvd7 => 7#3

/-- `txn[3:0] = {bus_we, bus_idx[2:0]}` (R52). -/
def txnOf (we : Bool) (idx : BitVec 3) : Txn := BitVec.ofBool we ++ idx

/-- The bus opcode map (R54): the transaction of a transaction word and its write data. -/
def decodeBus (txn : Txn) (wdata : Word) : Instr :=
  match txn.toNat with
  | 0 => .rdCtrl
  | 1 => .rdStatus
  | 2 => .rdReading
  | 3 => .rdRaw0
  | 4 => .rdRaw1
  | 5 => .rdRsvd5
  | 6 => .rdRsvd6
  | 7 => .rdRsvd7
  | 8 => .wrCtrl wdata
  | 9 => .wrStatus wdata
  | 10 => .wrReading wdata
  | 11 => .wrRaw0 wdata
  | 12 => .wrRaw1 wdata
  | 13 => .wrRsvd5 wdata
  | 14 => .wrRsvd6 wdata
  | _ => .wrRsvd7 wdata

/-- The FSM opcode map (R56): the operation of a state code. Codes 0b101S and 0b11SS keep their free bits. -/
def decodeFsm (code : Code) : Instr :=
  if code.extractLsb' 2 2 = 3#2 then .fsmUnused12To15 (code.extractLsb' 0 2)
  else if code.extractLsb' 1 3 = 5#3 then .fsmUnused10To11 (code.extractLsb' 0 1)
  else
    match code.toNat with
    | 0 => .idle
    | 1 => .startLow
    | 2 => .release
    | 3 => .resp
    | 4 => .ackLow
    | 5 => .ackHigh
    | 6 => .bitLow
    | 7 => .bitHigh
    | 8 => .check
    | _ => .fsmUnused9

/-- Decode a table word (assumption log 1), rejecting by name. -/
def decodeWord (w : TableWord) : Decoded :=
  if wordPadding w ≠ 0#3 then .rejected .paddingNotZero
  else if wordOperandAllowed w then
    .ok (if wordIsFsm w then decodeFsm (wordCode w) else decodeBus (wordCode w) (wordOperand w))
  else if wordIsFsm w then .rejected .operandOnFsm
  else .rejected .operandOnRead

/-- Decode the bytes of a table word, least significant first: 1 byte without an operand, 5 bytes with one
(assumption log 1). -/
def decodeBytes : List Byte → Decoded
  | [b] => decodeWord (0#32 ++ b)
  | [b, w0, w1, w2, w3] => decodeWord (w3 ++ w2 ++ w1 ++ w0 ++ b)
  | _ => .rejected .badLength

/-- The instruction read from a row's word as the opcode table numbers its bits (assumption log 1): the 4-bit code in
bits 3:0, the format in bit 4, the operand above bit 7; `nbits` bounds the word. -/
def decodeTableWord (nbits w : Nat) : Option Instr :=
  if nbits ≤ 40 ∧ w < 2 ^ nbits then (decodeWord (BitVec.ofNat 40 w)).instr else none

/-- The format of an instruction (R51). -/
def Instr.format : Instr → Format
  | .rdCtrl | .rdStatus | .rdReading | .rdRaw0 | .rdRaw1 | .rdRsvd5 | .rdRsvd6 | .rdRsvd7 => .bus
  | .wrCtrl _ | .wrStatus _ | .wrReading _ | .wrRaw0 _ | .wrRaw1 _ | .wrRsvd5 _ | .wrRsvd6 _ | .wrRsvd7 _ => .bus
  | .idle | .startLow | .release | .resp | .ackLow | .ackHigh | .bitLow | .bitHigh | .check => .fsm
  | .fsmUnused9 | .fsmUnused10To11 _ | .fsmUnused12To15 _ => .fsm

/-- The 4-bit code of an instruction: its transaction word (R54) or its state code (R56). -/
def Instr.code : Instr → BitVec 4
  | .rdCtrl => 0b0000#4
  | .rdStatus => 0b0001#4
  | .rdReading => 0b0010#4
  | .rdRaw0 => 0b0011#4
  | .rdRaw1 => 0b0100#4
  | .rdRsvd5 => 0b0101#4
  | .rdRsvd6 => 0b0110#4
  | .rdRsvd7 => 0b0111#4
  | .wrCtrl _ => 0b1000#4
  | .wrStatus _ => 0b1001#4
  | .wrReading _ => 0b1010#4
  | .wrRaw0 _ => 0b1011#4
  | .wrRaw1 _ => 0b1100#4
  | .wrRsvd5 _ => 0b1101#4
  | .wrRsvd6 _ => 0b1110#4
  | .wrRsvd7 _ => 0b1111#4
  | .idle => 0b0000#4
  | .startLow => 0b0001#4
  | .release => 0b0010#4
  | .resp => 0b0011#4
  | .ackLow => 0b0100#4
  | .ackHigh => 0b0101#4
  | .bitLow => 0b0110#4
  | .bitHigh => 0b0111#4
  | .check => 0b1000#4
  | .fsmUnused9 => 0b1001#4
  | .fsmUnused10To11 low => 0b101#3 ++ low
  | .fsmUnused12To15 low => 0b11#2 ++ low

/-- The operand of an instruction: the write data of a write, otherwise 0 (R53). -/
def Instr.operand : Instr → Word
  | .wrCtrl d | .wrStatus d | .wrReading d | .wrRaw0 d | .wrRaw1 d | .wrRsvd5 d | .wrRsvd6 d | .wrRsvd7 d => d
  | .rdCtrl | .rdStatus | .rdReading | .rdRaw0 | .rdRaw1 | .rdRsvd5 | .rdRsvd6 | .rdRsvd7 => 0#32
  | .idle | .startLow | .release | .resp | .ackLow | .ackHigh | .bitLow | .bitHigh | .check => 0#32
  | .fsmUnused9 | .fsmUnused10To11 _ | .fsmUnused12To15 _ => 0#32

/-- The table word of an instruction, written from the maps of R54 and R56 (layout: assumption log 1). -/
def encode (i : Instr) : TableWord :=
  i.operand ++ 0#3 ++ BitVec.ofBool (i.format == .fsm) ++ i.code

/-- The bytes of an instruction, least significant first; a write carries its operand. -/
def encodeBytes (i : Instr) : List Byte :=
  let w := encode i
  if i.format = .bus ∧ i.code.getLsbD 3 then
    [w.extractLsb' 0 8, w.extractLsb' 8 8, w.extractLsb' 16 8, w.extractLsb' 24 8, w.extractLsb' 32 8]
  else [w.extractLsb' 0 8]

/-- The register of a word index (R44). -/
def regOf (idx : BitVec 3) : Reg :=
  match idx.toNat with
  | 0 => .ctrl
  | 1 => .status
  | 2 => .reading
  | 3 => .raw0
  | 4 => .raw1
  | 5 => .rsvd5
  | 6 => .rsvd6
  | _ => .rsvd7

end Sys2Proof
end

