-- ==== Sys2Proof/Machine/State.lean ====
section
/-! DEFINITION. The state of the SWPC (spec/10_state.md R15), its ports (R32), its inputs (spec/00_scope.md R12) and its parameters (R37), as plain data; the reasons a step can stop; the state after reset (R35). -/

namespace Sys2Proof.Machine

/-- The inputs of one clock cycle (R12, R32). In the list of coming inputs `lineI` is the level the environment gives the pad
if the SWPC does not pull it low; in `pins` it is the level of the pad. -/
structure Input where
  /-- `rst`: synchronous reset, active high. -/
  rst : Bool
  /-- `line_i`: the level of the sensor line. -/
  lineI : Bool
  /-- `bus_sel`: a transaction is presented. -/
  busSel : Bool
  /-- `bus_we`: 1 is a write, 0 a read. -/
  busWe : Bool
  /-- `bus_idx`: register word index. -/
  busIdx : BitVec 3
  /-- `bus_wdata`: write data. -/
  busWdata : Word
  deriving DecidableEq, Repr

/-- A cycle with no reset and no transaction (R67) and the given line level. -/
def Input.quiet (line : Bool) : Input :=
  { rst := false, lineI := line, busSel := false, busWe := false, busIdx := 0#3, busWdata := 0#32 }

/-- The state. The first fourteen fields are the elements of R15; then the ports of the cycle last run, the model's input list and
cycle counter, and the parameters, which no step changes (R37). -/
structure State where
  /-- FSM state code (R18). -/
  state : Code
  /-- Data bits received (R20). -/
  bitcnt : BitVec 6
  /-- First synchronizer flop (R21). -/
  sync1 : Bool
  /-- Synchronized line level `line_s` (R21). -/
  lineS : Bool
  /-- Phase cycle counter, unbounded as R22 allows (assumption log 6). -/
  tcnt : Nat
  /-- Raw Frame shift register (R24). -/
  shreg : Frame
  /-- STATUS.BUSY (R27). -/
  busy : Bool
  /-- STATUS.DONE (R27). -/
  done : Bool
  /-- STATUS.VALID (R28). -/
  valid : Bool
  /-- STATUS.ERR (R28, R115). -/
  err : BitVec 2
  /-- READING.HUMIDITY (R29). -/
  hum : Half
  /-- READING.TEMPERATURE (R29). -/
  temp : Half
  /-- RAW0 (R30). -/
  raw0 : Word
  /-- RAW1.CHECKSUM (R30). -/
  raw1 : Byte
  /-- Input ports of the cycle last run (R32; assumption log 12). -/
  pins : Input
  /-- `start_req` of the cycle last run (R76; assumption log 12). -/
  startReq : Bool
  /-- `drive_low_o` of the cycle last run (R31; assumption log 12). -/
  driveLowO : Bool
  /-- `bus_rdata` of the cycle last run (R65; assumption log 12). -/
  busRdata : Word
  /-- The inputs of the coming cycles, oldest first (assumption log 3). -/
  inputs : List Input
  /-- The model's cycle counter, the argument of the free line draw (assumption log 4). -/
  cycle : Nat
  /-- The build parameters (R7, R37). -/
  params : Params
  /-- The platform premises (R138, R145). -/
  platform : Platform
  deriving DecidableEq, Repr

/-- Why the machine stops with a fault. -/
inductive Fault where
  /-- Raised by FSM_UNUSED_9, FSM_UNUSED_10_11 and FSM_UNUSED_12_15 (R113: `fault UnreachableState(state)`). Safe: no run from reset
  reaches it. -/
  | unreachableState (code : Code)
  /-- Raised by RD_STATUS when it observes ERR = 3 (93_implementation_defined.md I20). Safe: no run from reset reaches it. -/
  | reservedErr
  deriving DecidableEq, Repr

/-- Why the model gives a step no meaning. -/
inductive Refusal where
  /-- Raised by exec for an instruction that has no meaning yet; no arm does. Safe. -/
  | notModelled (mnemonic : String)
  /-- Raised by step: the parameters break R9 or a legal range of R7 ("A model refuses a configuration"). Safe. -/
  | configuration
  /-- Raised by step: the pad is not wired as R138 says (93_implementation_defined.md I15, `refuse`). Safe. -/
  | padWiring
  /-- Raised by step: a second driver on the line or a second host (R145; 93_implementation_defined.md I14, `refuse`). Safe. -/
  | sharedLine
  deriving DecidableEq, Repr

/-- The parameters of the reset state: the values R7 gives, and for the OPEN ones the model's own
(DESIGN CHOICE, assumption log 7). -/
def resetParams : Params := { clkPerUs := 1, tcntW := 15, minIntervalS := 2 }

/-- The platform as R138 and R145 require it. -/
def resetPlatform : Platform :=
  { openDrain := true, pullUp := true, pullDown := false, padInterrupt := false, soleDriver := true, soleHost := true }

/-- `RESET_STATE` (R35), with no cycle run yet (assumption log 12), no listed input (assumption log 3) and the parameters of
`resetParams`. -/
def State.reset : State :=
  { state := 0#4, bitcnt := 0#6, sync1 := true, lineS := true, tcnt := 0, shreg := 0#40,
    busy := false, done := false, valid := false, err := 0#2,
    hum := 0#16, temp := 0#16, raw0 := 0#32, raw1 := 0#8,
    pins := Input.quiet true, startReq := false, driveLowO := false, busRdata := 0#32,
    inputs := [], cycle := 0, params := resetParams, platform := resetPlatform }

end Sys2Proof.Machine
end

