-- ==== Sys2Proof/Machine/Operands.lean ====
section
/-! DEFINITION. The operands of the instructions: the START bit of a write (spec/30_encoding.md R53), the state codes (spec/10_state.md R18), the fields of the Raw Frame (R24, R58), the bit decision and packing (spec/42_bit_sampler.md R99, R101) and the pure functions of the frame decoder (spec/43_frame_checksum.md R105 to R107). -/

namespace Sys2Proof.Machine

/-- State code IDLE (R18). -/
abbrev codeIdle : Code := 0#4
/-- State code START_LOW (R18). -/
abbrev codeStartLow : Code := 1#4
/-- State code RELEASE (R18). -/
abbrev codeRelease : Code := 2#4
/-- State code RESP (R18). -/
abbrev codeResp : Code := 3#4
/-- State code ACK_LOW (R18). -/
abbrev codeAckLow : Code := 4#4
/-- State code ACK_HIGH (R18). -/
abbrev codeAckHigh : Code := 5#4
/-- State code BIT_LOW (R18). -/
abbrev codeBitLow : Code := 6#4
/-- State code BIT_HIGH (R18). -/
abbrev codeBitHigh : Code := 7#4
/-- State code CHECK (R18). -/
abbrev codeCheck : Code := 8#4

/-- `START = bus_wdata[0]` (R53). -/
def startBit (wdata : Word) : Bool := wdata.getLsbD 0

/-- byte0, "humidity integral part" (R24). -/
def byte0 (f : Frame) : Byte := f.extractLsb' 32 8
/-- byte1, "humidity fractional/low byte" (R24). -/
def byte1 (f : Frame) : Byte := f.extractLsb' 24 8
/-- byte2, "temperature integral part" (R24). -/
def byte2 (f : Frame) : Byte := f.extractLsb' 16 8
/-- byte3, "temperature fractional/low byte" (R24). -/
def byte3 (f : Frame) : Byte := f.extractLsb' 8 8
/-- byte4, "checksum" (R24). -/
def byte4 (f : Frame) : Byte := f.extractLsb' 0 8

/-- `Decide(H)`: 1 exactly when `H > T_TH_CYC` (R99). -/
def decideBit (p : Params) (h : Nat) : Bool := decide (p.tThCyc < h)

/-- `{shreg[38:0], b}`: a decided bit shifts in at the least significant end (R24, R101). -/
def shiftIn (f : Frame) (b : Bool) : Frame := f.extractLsb' 0 39 ++ BitVec.ofBool b

/-- The Raw Frame that a list of decided high durations leaves in a frame register (R102). -/
def packDurations (p : Params) (f : Frame) : List Nat → Frame
  | [] => f
  | h :: hs => packDurations p (shiftIn f (decideBit p h)) hs

/-- `ChecksumOK` (R105): the 8-bit wrapping sum of bytes 0 to 3 equals byte 4. -/
def checksumOk (b0 b1 b2 b3 b4 : Byte) : Bool := b0 + b1 + b2 + b3 == b4

/-- `Humidity(b0, b1) = {b0, b1} / 10`, unsigned, truncating (R106). -/
def humidity (b0 b1 : Byte) : Half := (b0 ++ b1) / Config.div

/-- `Temperature(b2, b3) = {b2, b3} / 10`, unsigned, truncating (R107). -/
def temperature (b2 b3 : Byte) : Half := (b2 ++ b3) / Config.div

/-- `ChecksumOK` of a whole Raw Frame (R104). -/
def frameOk (f : Frame) : Bool := checksumOk (byte0 f) (byte1 f) (byte2 f) (byte3 f) (byte4 f)

end Sys2Proof.Machine
end

