-- ==== Sys2Proof/Machine/Flags.lean ====
section
/-! DEFINITION. The flags BUSY, DONE, VALID and ERR (spec/10_state.md R26 to R28, R34): the STATUS word, and what an accepted START and a completion make of them. -/

namespace Sys2Proof.Machine

/-- ERR = NONE (R115). -/
abbrev errNone : BitVec 2 := 0#2
/-- ERR = TIMEOUT (R115). -/
abbrev errTimeout : BitVec 2 := 1#2
/-- ERR = CHECKSUM_FAILED (R115). -/
abbrev errChecksum : BitVec 2 := 2#2
/-- ERR = 3, reserved, never produced (R115). -/
abbrev errReserved : BitVec 2 := 3#2

/-- `STATUS = zext_32({state[3:0], 0b000, err[1:0], valid, done, busy})` (R26). -/
def State.statusWord (s : State) : Word :=
  (s.state ++ 0#3 ++ s.err ++ BitVec.ofBool s.valid ++ BitVec.ofBool s.done ++ BitVec.ofBool s.busy).setWidth 32

/-- The flags when a START is accepted: `busy <- 1 ; done <- 0 ; valid <- 0 ; err <- 0` (R86). -/
def State.flagsOnStart (s : State) : State :=
  { s with busy := true, done := false, valid := false, err := errNone }

/-- The flags at a completion: `busy <- 0 ; done <- 1 ; err <- code ; valid <- (code == NONE)` (R118). -/
def State.flagsOnComplete (code : BitVec 2) (s : State) : State :=
  { s with busy := false, done := true, err := code, valid := code == errNone }

end Sys2Proof.Machine
end

