-- ==== Sys2Proof/Machine/Ops.lean ====
section
/-! DEFINITION. The shared operations over the state: host register reads and writes (spec/40_host_interface.md R65, R66), `Complete` (spec/60_exceptions.md R118: the trap-entry analogue) and the accepted START that returns from it (R125, spec/41_handshake.md R86), the wait template (R85), the ports and the synchronizer (spec/10_state.md R21, R31, R33), reset (spec/70_reset_and_hazards.md R134). -/

namespace Sys2Proof.Machine

/-- The value of a host register word (R44, R65). -/
def State.readReg (s : State) : Reg → Word
  | .ctrl => 0#32
  | .status => s.statusWord
  | .reading => s.temp ++ s.hum
  | .raw0 => s.raw0
  | .raw1 => s.raw1.setWidth 32
  | .rsvd5 => 0#32
  | .rsvd6 => 0#32
  | .rsvd7 => 0#32

/-- Drive `bus_rdata` (R65); a read changes no state element. -/
def State.respond (v : Word) (s : State) : State := { s with busRdata := v }

/-- A host write (R66): WR_CTRL gives `start_req` (R76: discarded with `rst`), every other write is ignored. -/
def State.writeReg (r : Reg) (wdata : Word) (s : State) : State :=
  match r with
  | .ctrl => { s with startReq := startBit wdata && !s.pins.rst }
  | .status | .reading | .raw0 | .raw1 | .rsvd5 | .rsvd6 | .rsvd7 => s

/-- Move to a state code with a phase count (R11: `pc <- target` is `state <- target`). -/
def State.goto (target : Code) (count : Nat) (s : State) : State :=
  { s with state := target, tcnt := count }

/-- One more cycle in the same phase: `tcnt <- tcnt + 1` (R22). -/
def State.tick (s : State) : State := { s with tcnt := s.tcnt + 1 }

/-- `Complete(code)` (R118): the one procedure that ends a read. -/
def State.complete (code : BitVec 2) (s : State) : State :=
  (s.flagsOnComplete code).goto codeIdle 0

/-- The accepted START (R86), the "return" of R125: it clears STATUS and the results and begins a read. -/
def State.acceptStart (s : State) : State :=
  { s.flagsOnStart.goto codeStartLow 1 with
    bitcnt := 0#6, shreg := 0#40, hum := 0#16, temp := 0#16, raw0 := 0#32, raw1 := 0#8 }

/-- `Wait(cond, limit, next, tcnt_next)` (R85): the condition is tested before the limit. -/
def State.waitFor (cond : Bool) (limit : Nat) (target : Code) (countNext : Nat) (s : State) : State :=
  if cond then s.goto target countNext
  else if limit ≤ s.tcnt then s.complete errTimeout
  else s.tick

/-- A decided bit enters the frame: `shreg <- {shreg[38:0], b} ; bitcnt <- bitcnt + 1` (R98). -/
def State.shiftBit (b : Bool) (s : State) : State :=
  { s with shreg := shiftIn s.shreg b, bitcnt := s.bitcnt + 1#6 }

/-- The result registers of a successful read (R104, R108). -/
def State.postResult (s : State) : State :=
  { s with
    hum := humidity (byte0 s.shreg) (byte1 s.shreg),
    temp := temperature (byte2 s.shreg) (byte3 s.shreg),
    raw0 := byte0 s.shreg ++ byte1 s.shreg ++ byte2 s.shreg ++ byte3 s.shreg,
    raw1 := byte4 s.shreg }

/-- `drive_low_o = (state == START_LOW) and not rst` (R31). -/
def State.driveLow (s : State) (rst : Bool) : Bool := s.state == codeStartLow && !rst

/-- The level of the open-drain pad: low while the SWPC pulls it, else the environment's level (R33; wired-AND of R95). -/
def padLevel (drive line : Bool) : Bool := !drive && line

/-- The inputs of the next cycle: the oldest listed record, or a quiet cycle (R67) with a free line draw
(R33; assumption log 3, log 4). -/
def State.nextInput (s : State) : Input :=
  match s.inputs with
  | i :: _ => i
  | [] => Input.quiet (Config.lineDraw s.cycle)

/-- Begin a clock cycle: take its inputs, put the ports at their levels, `start_req` and `bus_rdata` at 0 (R65, R67). -/
def State.sample (s : State) : State :=
  { s with
    pins := { s.nextInput with lineI := padLevel (s.driveLow s.nextInput.rst) s.nextInput.lineI },
    driveLowO := s.driveLow s.nextInput.rst,
    startReq := false,
    busRdata := 0#32,
    inputs := s.inputs.tail,
    cycle := s.cycle + 1 }

/-- The synchronizer at the clock edge: `sync1 <- line_i ; line_s <- sync1` (R21). -/
def State.shiftSync (s : State) : State := { s with sync1 := s.pins.lineI, lineS := s.sync1 }

/-- Reset at the clock edge (R134): every element of R15 takes its value in `RESET_STATE` (R35). -/
def State.applyReset (s : State) : State :=
  { s with
    state := codeIdle, bitcnt := 0#6, sync1 := true, lineS := true, tcnt := 0, shreg := 0#40,
    busy := false, done := false, valid := false, err := errNone,
    hum := 0#16, temp := 0#16, raw0 := 0#32, raw1 := 0#8 }

/-- Put an input record in front of the coming ones. -/
def State.present (i : Input) (s : State) : State := { s with inputs := i :: s.inputs }

/-- Why the model refuses to run this configuration (R9; R138 and R145 with 93_implementation_defined.md I14, I15). -/
def State.refusal (s : State) : Option Refusal :=
  if ¬ s.params.Wf then some .configuration
  else if ¬ s.platform.PadWired then some .padWiring
  else if ¬ s.platform.Exclusive then some .sharedLine
  else none

end Sys2Proof.Machine
end

