-- ==== Sys2Proof/Machine/Bus.lean ====
section
/-! DEFINITION. Family: host bus transactions (spec/40_host_interface.md R65 to R83). -/

namespace Sys2Proof.Machine

/-- RD_CTRL: reads 0 (R68). -/
def execRdCtrl (s : State) : Host.Outcome State Fault Refusal := .next (s.respond (s.readReg .ctrl))

/-- RD_STATUS: the status word (R69). Observing ERR = 3 faults (93_implementation_defined.md I20; assumption log 11). -/
def execRdStatus (s : State) : Host.Outcome State Fault Refusal :=
  if s.err = errReserved then .fault .reservedErr else .next (s.respond (s.readReg .status))

/-- RD_READING: `{temp, hum}` (R70). -/
def execRdReading (s : State) : Host.Outcome State Fault Refusal := .next (s.respond (s.readReg .reading))

/-- RD_RAW0: the first four bytes of the last successful frame (R71). -/
def execRdRaw0 (s : State) : Host.Outcome State Fault Refusal := .next (s.respond (s.readReg .raw0))

/-- RD_RAW1: the checksum byte of the last successful frame (R72). -/
def execRdRaw1 (s : State) : Host.Outcome State Fault Refusal := .next (s.respond (s.readReg .raw1))

/-- RD_RSVD5: reads 0 (R73). -/
def execRdRsvd5 (s : State) : Host.Outcome State Fault Refusal := .next (s.respond (s.readReg .rsvd5))

/-- RD_RSVD6: reads 0 (R74). -/
def execRdRsvd6 (s : State) : Host.Outcome State Fault Refusal := .next (s.respond (s.readReg .rsvd6))

/-- RD_RSVD7: reads 0 (R75). -/
def execRdRsvd7 (s : State) : Host.Outcome State Fault Refusal := .next (s.respond (s.readReg .rsvd7))

/-- WR_CTRL, the START command: gives `start_req`, which the IDLE operation of the same cycle consumes (R76). -/
def execWrCtrl (wdata : Word) (s : State) : Host.Outcome State Fault Refusal := .next (s.writeReg .ctrl wdata)

/-- WR_STATUS: ignored (R77). -/
def execWrStatus (wdata : Word) (s : State) : Host.Outcome State Fault Refusal := .next (s.writeReg .status wdata)

/-- WR_READING: ignored (R78). -/
def execWrReading (wdata : Word) (s : State) : Host.Outcome State Fault Refusal := .next (s.writeReg .reading wdata)

/-- WR_RAW0: ignored (R79). -/
def execWrRaw0 (wdata : Word) (s : State) : Host.Outcome State Fault Refusal := .next (s.writeReg .raw0 wdata)

/-- WR_RAW1: ignored (R80). -/
def execWrRaw1 (wdata : Word) (s : State) : Host.Outcome State Fault Refusal := .next (s.writeReg .raw1 wdata)

/-- WR_RSVD5: ignored (R81). -/
def execWrRsvd5 (wdata : Word) (s : State) : Host.Outcome State Fault Refusal := .next (s.writeReg .rsvd5 wdata)

/-- WR_RSVD6: ignored (R82). -/
def execWrRsvd6 (wdata : Word) (s : State) : Host.Outcome State Fault Refusal := .next (s.writeReg .rsvd6 wdata)

/-- WR_RSVD7: ignored (R83). -/
def execWrRsvd7 (wdata : Word) (s : State) : Host.Outcome State Fault Refusal := .next (s.writeReg .rsvd7 wdata)

end Sys2Proof.Machine
end

