-- ==== Sys2Proof/Machine/FrameCheck.lean ====
section
/-! DEFINITION. Family: the frame decoder and the unused state codes (spec/43_frame_checksum.md R104 to R113). -/

namespace Sys2Proof.Machine

/-- CHECK (R104): post the result when the checksum holds (R108), else report CHECKSUM_FAILED (R109). -/
def execCheck (s : State) : Host.Outcome State Fault Refusal :=
  .next (if frameOk s.shreg then s.postResult.complete errNone else s.complete errChecksum)

/-- FSM_UNUSED_9 (R113): `fault UnreachableState(state)`. -/
def execFsmUnused9 (_s : State) : Host.Outcome State Fault Refusal :=
  .fault (.unreachableState 9#4)

/-- FSM_UNUSED_10_11 (R113): `fault UnreachableState(state)`. -/
def execFsmUnused10To11 (low : BitVec 1) (_s : State) : Host.Outcome State Fault Refusal :=
  .fault (.unreachableState (0b101#3 ++ low))

/-- FSM_UNUSED_12_15 (R113): `fault UnreachableState(state)`. -/
def execFsmUnused12To15 (low : BitVec 2) (_s : State) : Host.Outcome State Fault Refusal :=
  .fault (.unreachableState (0b11#2 ++ low))

end Sys2Proof.Machine
end

