-- ==== Sys2Proof/Machine/Handshake.lean ====
section
/-! DEFINITION. Family: the handshake state machine (spec/41_handshake.md R86 to R91). -/

namespace Sys2Proof.Machine

/-- IDLE (R86): begin a read when `start_req`, else no change. -/
def execIdle (s : State) : Host.Outcome State Fault Refusal :=
  .next (if s.startReq then s.acceptStart else s)

/-- START_LOW (R87): hold the line low for `T_START_CYC` cycles, then release it. -/
def execStartLow (s : State) : Host.Outcome State Fault Refusal :=
  .next (if s.params.tStartCyc ≤ s.tcnt then s.goto codeRelease 1 else s.tick)

/-- RELEASE (R88): `Wait(line_s == 1, T_HS_CYC, RESP, tcnt + 1)`. -/
def execRelease (s : State) : Host.Outcome State Fault Refusal :=
  .next (s.waitFor s.lineS s.params.tHsCyc codeResp (s.tcnt + 1))

/-- RESP (R89): `Wait(line_s == 0, T_HS_CYC, ACK_LOW, tcnt + 1)`. -/
def execResp (s : State) : Host.Outcome State Fault Refusal :=
  .next (s.waitFor (!s.lineS) s.params.tHsCyc codeAckLow (s.tcnt + 1))

/-- ACK_LOW (R90): `Wait(line_s == 1, T_HS_CYC, ACK_HIGH, tcnt + 1)`. -/
def execAckLow (s : State) : Host.Outcome State Fault Refusal :=
  .next (s.waitFor s.lineS s.params.tHsCyc codeAckHigh (s.tcnt + 1))

/-- ACK_HIGH (R91): `Wait(line_s == 0, T_HS_CYC, BIT_LOW, 1)`. -/
def execAckHigh (s : State) : Host.Outcome State Fault Refusal :=
  .next (s.waitFor (!s.lineS) s.params.tHsCyc codeBitLow 1)

end Sys2Proof.Machine
end

