-- ==== Sys2Proof/Machine/Sampler.lean ====
section
/-! DEFINITION. Family: the pulse-width sampler (spec/42_bit_sampler.md R97, R98). -/

namespace Sys2Proof.Machine

/-- BIT_LOW (R97): `Wait(line_s == 1, T_BL_CYC, BIT_HIGH, 1)`. -/
def execBitLow (s : State) : Host.Outcome State Fault Refusal :=
  .next (s.waitFor s.lineS s.params.tBlCyc codeBitHigh 1)

/-- BIT_HIGH (R98): at the falling edge decide and shift in the bit, then the next bit or, after the 40th, CHECK. The bit
counter is compared before it is incremented. -/
def execBitHigh (s : State) : Host.Outcome State Fault Refusal :=
  .next
    (if s.lineS then
      (if s.params.tBhCyc ≤ s.tcnt then s.complete errTimeout else s.tick)
    else if s.bitcnt.toNat + 1 = Config.nBits then
      (s.shiftBit (decideBit s.params s.tcnt)).goto codeCheck 0
    else
      (s.shiftBit (decideBit s.params s.tcnt)).goto codeBitLow 1)

end Sys2Proof.Machine
end

