-- ==== Sys2Proof/Machine/Dispatch.lean ====
section
/-! DEFINITION. exec: one arm per instruction (spec/30_encoding.md R54, R56). -/

namespace Sys2Proof.Machine

def exec (i : Instr) (s : State) : Host.Outcome State Fault Refusal :=
  match i with
  | .rdCtrl => Sys2Proof.Machine.execRdCtrl s
  | .rdStatus => Sys2Proof.Machine.execRdStatus s
  | .rdReading => Sys2Proof.Machine.execRdReading s
  | .rdRaw0 => Sys2Proof.Machine.execRdRaw0 s
  | .rdRaw1 => Sys2Proof.Machine.execRdRaw1 s
  | .rdRsvd5 => Sys2Proof.Machine.execRdRsvd5 s
  | .rdRsvd6 => Sys2Proof.Machine.execRdRsvd6 s
  | .rdRsvd7 => Sys2Proof.Machine.execRdRsvd7 s
  | .wrCtrl wdata => Sys2Proof.Machine.execWrCtrl wdata s
  | .wrStatus wdata => Sys2Proof.Machine.execWrStatus wdata s
  | .wrReading wdata => Sys2Proof.Machine.execWrReading wdata s
  | .wrRaw0 wdata => Sys2Proof.Machine.execWrRaw0 wdata s
  | .wrRaw1 wdata => Sys2Proof.Machine.execWrRaw1 wdata s
  | .wrRsvd5 wdata => Sys2Proof.Machine.execWrRsvd5 wdata s
  | .wrRsvd6 wdata => Sys2Proof.Machine.execWrRsvd6 wdata s
  | .wrRsvd7 wdata => Sys2Proof.Machine.execWrRsvd7 wdata s
  | .idle => Sys2Proof.Machine.execIdle s
  | .startLow => Sys2Proof.Machine.execStartLow s
  | .release => Sys2Proof.Machine.execRelease s
  | .resp => Sys2Proof.Machine.execResp s
  | .ackLow => Sys2Proof.Machine.execAckLow s
  | .ackHigh => Sys2Proof.Machine.execAckHigh s
  | .bitLow => Sys2Proof.Machine.execBitLow s
  | .bitHigh => Sys2Proof.Machine.execBitHigh s
  | .check => Sys2Proof.Machine.execCheck s
  | .fsmUnused9 => Sys2Proof.Machine.execFsmUnused9 s
  | .fsmUnused10To11 low => Sys2Proof.Machine.execFsmUnused10To11 low s
  | .fsmUnused12To15 low => Sys2Proof.Machine.execFsmUnused12To15 low s

end Sys2Proof.Machine
end

