-- ==== Sys2Proof/Machine/Cycle.lean ====
section
/-! DEFINITION. The two instructions of one clock cycle (spec/00_scope.md R12): the host's bus transaction, where there is one, and the FSM operation of the state code, with the clock edge that ends the cycle (assumption log 2). -/

namespace Sys2Proof.Machine

/-- The transaction of a cycle: one exactly when `bus_sel` is 1 (R52). -/
def Input.transaction (i : Input) : Option Instr :=
  if i.busSel then some (decodeBus (txnOf i.busWe i.busIdx) i.busWdata) else none

/-- The FSM operation of a cycle: the one its state code selects (R55). -/
def State.operation (s : State) : Instr := decodeFsm s.state

/-- Run the transaction of the cycle, where there is one. -/
def busPhase (s : State) : Host.Outcome State Fault Refusal :=
  match s.pins.transaction with
  | some i => exec i s
  | none => .next s

/-- Run the FSM operation and the clock edge; with `rst` no operation runs and the edge resets (R12, R134). -/
def fsmPhase (s : State) : Host.Outcome State Fault Refusal :=
  if s.pins.rst then .next s.applyReset
  else
    match exec s.operation s with
    | .next t => .next t.shiftSync
    | .fault f => .fault f
    | .refused r => .refused r

/-- One clock cycle (R12). -/
def runCycle (s : State) : Host.Outcome State Fault Refusal :=
  match busPhase s.sample with
  | .next t => fsmPhase t
  | .fault f => .fault f
  | .refused r => .refused r

/-- Place a decoded instruction where the next step runs it (assumption log 13): a transaction as the bus inputs of the next cycle,
an operation as the state code, in a next cycle without reset or transaction. The line of that cycle is at its idle level. -/
def State.placeInstr (i : Instr) (s : State) : State :=
  match i.format with
  | .bus =>
    s.present
      { rst := false, lineI := true, busSel := true, busWe := i.code.getLsbD 3, busIdx := i.code.extractLsb' 0 3,
        busWdata := i.operand }
  | .fsm => { s.present (Input.quiet true) with state := i.code }

end Sys2Proof.Machine
end

