-- ==== Sys2Proof/Machine/Step.lean ====
section
/-! DEFINITION. step: one clock cycle of a configuration the model accepts (spec/00_scope.md R9, R12), and withFetchWord (assumption log 13). -/

namespace Sys2Proof.Machine

/-- One clock cycle `Step(s, in)` (R12); a configuration that R9 refuses runs no cycle. -/
def step (s : State) : Host.Outcome State Fault Refusal :=
  match s.refusal with
  | some r => .refused r
  | none => runCycle s

/-- The state whose next step runs the instruction of a table word (assumption log 1, log 13); a word the decoder rejects changes
nothing. -/
def State.withFetchWord (s : State) (nbits w : Nat) : State :=
  match decodeTableWord nbits w with
  | some i => s.placeInstr i
  | none => s

end Sys2Proof.Machine
end

