-- ==== Sys2Proof/Machine/HostProgram.lean ====
section
/-! DEFINITION. The host side: the host assembly and its pseudo-instructions (spec/30_encoding.md R64) and the read contract (spec/40_host_interface.md R84). A program is what the host presents to the bus, one line a cycle; reset and the line stay with the coming inputs (assumption log 16). -/

namespace Sys2Proof.Machine

/-- One line of host assembly (R64). -/
inductive Asm where
  /-- `rd REG`. -/
  | rd (r : Reg)
  /-- `wr REG, imm32`. -/
  | wr (r : Reg) (imm : Word)
  /-- `nop`: one cycle with `bus_sel = 0`. -/
  | nop
  deriving DecidableEq, Repr

/-- The transaction word of a line (R64), `none` for `nop`. -/
def Asm.txn : Asm → Option Txn
  | .rd r => some (txnOf false r.idx)
  | .wr r _ => some (txnOf true r.idx)
  | .nop => none

/-- The `bus_wdata` of a line (R64). -/
def Asm.wdata : Asm → Word
  | .wr _ imm => imm
  | .rd _ => 0#32
  | .nop => 0#32

/-- `start` is `wr CTRL, 0x00000001` (R64). -/
def Asm.start : Asm := .wr .ctrl 1#32

/-- `idle n` is `n` consecutive `nop` (R64). -/
def Asm.idle (n : Nat) : List Asm := List.replicate n .nop

/-- The inputs of a cycle with its bus side set by a line of host assembly. -/
def Asm.onBus (a : Asm) (i : Input) : Input :=
  match a with
  | .rd r => { i with busSel := true, busWe := false, busIdx := r.idx, busWdata := 0#32 }
  | .wr r imm => { i with busSel := true, busWe := true, busIdx := r.idx, busWdata := imm }
  | .nop => { i with busSel := false, busWe := false, busIdx := 0#3, busWdata := 0#32 }

/-- The host presents a line in the next cycle. -/
def State.withAsm (a : Asm) (s : State) : State :=
  { s with inputs := a.onBus s.nextInput :: s.inputs.tail }

/-- Run one line of host assembly, one cycle. -/
def runAsm (a : Asm) (s : State) : Host.Outcome State Fault Refusal := step (s.withAsm a)

/-- Run a straight host program, one line a cycle. -/
def runProgram : List Asm → State → Host.Outcome State Fault Refusal
  | [], s => .next s
  | a :: as, s =>
    match runAsm a s with
    | .next t => runProgram as t
    | .fault f => .fault f
    | .refused r => .refused r

/-- `poll` (R64), with no `nop` between and at most `n` reads: `rd STATUS` until the value read has bit 1 (DONE) = 1.
Answers that value and the state after it. -/
def poll : Nat → State → Option (Word × State)
  | 0, _ => none
  | n + 1, s =>
    match runAsm (.rd .status) s with
    | .next t => if t.busRdata.getLsbD 1 then some (t.busRdata, t) else poll n t
    | .fault _ => none
    | .refused _ => none

/-- The source's `Result<Reading, ReadError>` (R84). -/
inductive ReadResult where
  | ok (humidity temperature : Half)
  | timeout
  | checksumFailed
  deriving DecidableEq, Repr

/-- The table of R84: the result that a STATUS value with DONE = 1 and the READING value stand for. -/
def readResult (status reading : Word) : Option ReadResult :=
  match (status.extractLsb' 3 2).toNat with
  | 0 => if status.getLsbD 2 then some (.ok (reading.extractLsb' 0 16) (reading.extractLsb' 16 16)) else none
  | 1 => some .timeout
  | 2 => some .checksumFailed
  | _ => none

/-- The `read` pseudo-instruction (R64, R84): `start`, `poll`, then `rd READING` when ERR = 0. -/
def hostRead (n : Nat) (s : State) : Option (ReadResult × State) :=
  match runAsm Asm.start s with
  | .next t =>
    match poll n t with
    | some (status, u) =>
      if status.extractLsb' 3 2 = errNone then
        match runAsm (.rd .reading) u with
        | .next v => (readResult status v.busRdata).map (·, v)
        | .fault _ => none
        | .refused _ => none
      else (readResult status 0#32).map (·, u)
    | none => none
  | .fault _ => none
  | .refused _ => none

end Sys2Proof.Machine
end

