-- ==== Sys2Proof/Safety.lean ====
section
/-! DEFINITION. What a safe state and a safe run of the SWPC are, in the terms the statements use: the invariants that spec/10_state.md R20 to R30 and spec/43_frame_checksum.md R110 give, the synchronizer invariant behind spec/70_reset_and_hazards.md R143 and R150, the line as a stream of levels, and the host duties of R144 and R145. -/

namespace Sys2Proof

/-- The last cycle in which a read can complete, counted from the cycle of its START (R151). -/
def Params.readBound (p : Params) : Nat :=
  p.tStartCyc + (p.tHsCyc + 3) + Config.nBits * (p.tBlCyc + p.tBhCyc) + 1

namespace Machine

/-- The model accepts the configuration: R9, R138 and R145 hold. -/
abbrev State.Accepted (s : State) : Prop :=
  s.params.Wf ∧ s.platform.PadWired ∧ s.platform.Exclusive

/-- `state` is one of the codes 0 to 8 (R18, R62). -/
abbrev State.LegalCode (s : State) : Prop := s.state.toNat ≤ 8

/-- BUSY is 1 exactly when `state` is not IDLE, and BUSY and DONE are never both 1 (R27). -/
abbrev State.BusyDoneLaw (s : State) : Prop :=
  (s.busy = true ↔ s.state ≠ codeIdle) ∧ ¬ (s.busy = true ∧ s.done = true)

/-- VALID is 1 exactly when DONE is 1 and ERR is 0 (R28); ERR is never 3 (R115) and is 0 until a read completes (R28). -/
abbrev State.ErrValidLaw (s : State) : Prop :=
  (s.valid = true ↔ s.done = true ∧ s.err = errNone) ∧ s.err ≠ errReserved ∧ (s.done = false → s.err = errNone)

/-- Where the phase counter may stand in each state (R22, R23, R85, R92). -/
abbrev State.CountLaw (s : State) : Prop :=
  (s.state = codeIdle → s.tcnt = 0) ∧
  (s.state = codeStartLow → 1 ≤ s.tcnt ∧ s.tcnt ≤ s.params.tStartCyc) ∧
  (s.state = codeRelease → 1 ≤ s.tcnt ∧ s.tcnt ≤ s.params.tHsCyc) ∧
  (s.state = codeResp → 1 ≤ s.tcnt ∧ s.tcnt ≤ s.params.tHsCyc + 1) ∧
  (s.state = codeAckLow → 1 ≤ s.tcnt ∧ s.tcnt ≤ s.params.tHsCyc + 2) ∧
  (s.state = codeAckHigh → 1 ≤ s.tcnt ∧ s.tcnt ≤ s.params.tHsCyc + 3) ∧
  (s.state = codeBitLow → 1 ≤ s.tcnt ∧ s.tcnt ≤ s.params.tBlCyc) ∧
  (s.state = codeBitHigh → 1 ≤ s.tcnt ∧ s.tcnt ≤ s.params.tBhCyc) ∧
  (s.state = codeCheck → s.tcnt = 0)

/-- Where the bit counter may stand (R20, R96, R104), and that the frame register holds no more than the bits received (R24). -/
abbrev State.BitLaw (s : State) : Prop :=
  s.bitcnt.toNat ≤ Config.nBits ∧
  (1 ≤ s.state.toNat ∧ s.state.toNat ≤ 5 → s.bitcnt = 0#6) ∧
  (s.state = codeBitLow ∨ s.state = codeBitHigh → s.bitcnt.toNat < Config.nBits) ∧
  (s.state = codeCheck → s.bitcnt.toNat = Config.nBits) ∧
  s.shreg.toNat < 2 ^ s.bitcnt.toNat

/-- The result registers: all 0 unless VALID (R110); with VALID, RAW0 and RAW1 hold the received frame, it passes the checksum, and
READING holds the quotients of its words (R106 to R108). -/
abbrev State.ResultLaw (s : State) : Prop :=
  (s.valid = false → s.hum = 0#16 ∧ s.temp = 0#16 ∧ s.raw0 = 0#32 ∧ s.raw1 = 0#8) ∧
  (s.valid = true →
    s.raw0 ++ s.raw1 = s.shreg ∧ frameOk (s.raw0 ++ s.raw1) = true ∧
    s.hum = s.raw0.extractLsb' 16 16 / 10#16 ∧ s.temp = s.raw0.extractLsb' 0 16 / 10#16)

/-- The invariant of the SWPC. -/
abbrev State.Inv (s : State) : Prop :=
  s.LegalCode ∧ s.BusyDoneLaw ∧ s.ErrValidLaw ∧ s.CountLaw ∧ s.BitLaw ∧ s.ResultLaw

/-- The start pulse in the synchronizer (R143): once the line has been held low long enough both stages show it, so RELEASE
cannot see the line high before its third cycle, and each later handshake state has at least the count R150 gives. -/
abbrev State.SyncInv (s : State) : Prop :=
  (s.state = codeStartLow → (2 ≤ s.tcnt → s.sync1 = false) ∧ (3 ≤ s.tcnt → s.lineS = false)) ∧
  (s.state = codeRelease →
    1 ≤ s.tcnt ∧ (s.tcnt = 1 → s.sync1 = false ∧ s.lineS = false) ∧ (s.tcnt = 2 → s.lineS = false)) ∧
  (s.state = codeResp → 4 ≤ s.tcnt) ∧
  (s.state = codeAckLow → 5 ≤ s.tcnt) ∧
  (s.state = codeAckHigh → 6 ≤ s.tcnt)

/-- No listed input asserts `rst`. -/
abbrev State.NoReset (s : State) : Prop := ∀ i ∈ s.inputs, i.rst = false

/-- The record is a START command (R76). -/
def Input.isStart (i : Input) : Bool :=
  i.busSel && i.busWe && i.busIdx == 0#3 && startBit i.busWdata && !i.rst

/-- `BusRead(s, in)` (R65): what `bus_rdata` shows in a cycle that starts in state `s` with inputs `i`. -/
def State.busReadValue (s : State) (i : Input) : Word :=
  if i.busSel && !i.busWe then s.readReg (regOf i.busIdx) else 0#32

/-- The record reads STATUS (R69). -/
def Input.readsStatus (i : Input) : Bool := i.busSel && !i.busWe && i.busIdx == 1#3

/-- The levels the FSM will see on `line_s`, from this cycle on, as long as the SWPC does not drive: the two synchronizer stages, then
the listed inputs (R21). -/
def State.lineStream (s : State) : List Bool := s.lineS :: s.sync1 :: s.inputs.map (·.lineI)

/-- A data-bit symbol as the FSM sees it from the first BIT_LOW cycle (R59, R100): `low` low levels, `high` high levels, and the
falling edge that ends it. -/
def symbolLevels (low high : Nat) : List Bool :=
  List.replicate low false ++ List.replicate high true ++ [false]

/-- The levels of a list of symbols, in line order. -/
def frameLevels : List (Nat × Nat) → List Bool
  | [] => []
  | (low, high) :: rest => symbolLevels low high ++ frameLevels rest

/-- A symbol the sampler decodes: both phases within their windows (R97, R98). -/
abbrev SymbolFits (p : Params) (sym : Nat × Nat) : Prop :=
  sym.1 < p.tBlCyc ∧ 1 ≤ sym.2 ∧ sym.2 ≤ p.tBhCyc

/-- The host duty of R144 on a schedule of inputs: every START comes at least `gap` cycles after the START or reset before it.
`since` counts the cycles since that one (assumption log 17). -/
def startsSpaced (gap : Nat) : Nat → List Input → Bool
  | _, [] => true
  | since, i :: rest =>
    if i.rst then startsSpaced gap 1 rest
    else if i.isStart then decide (gap ≤ since) && startsSpaced gap 1 rest
    else startsSpaced gap (since + 1) rest

/-- The host keeps the inter-read interval in the listed inputs (R144), `since` cycles after its last START or reset. -/
def State.HostDuty (s : State) (since : Nat) : Prop :=
  startsSpaced s.params.minIntervalCyc since s.inputs = true

end Machine

end Sys2Proof
end

