-- ==== Sys2Proof/Certificates/Slice0/Obligations.lean ====
section
/-! DEFINITION. The statements for the provers, from the numbered rules of spec/. Every statement holds for all parameters of spec/00_scope.md R7 and for every line draw. -/

open Sys2Proof Sys2Proof.Machine

/-! ### Encoding -/

/-- Decode of encode is the instruction, with every operand at every value (R52 to R56), as a table word and as bytes. The layout of
the table word is the model's choice (assumption log 1). -/
def Obligations.EncodedInstructionDecodesToItself : Prop :=
  ∀ i : Instr, decodeWord (encode i) = .ok i ∧ decodeBytes (encodeBytes i) = .ok i

/-- Every table word has at most one meaning: encode of decode is the word, so no bit of it is dropped. The layout is the
model's choice (assumption log 1). -/
def Obligations.DecodedWordIsItsEncoding : Prop :=
  ∀ (w : TableWord) (i : Instr), decodeWord w = .ok i → encode i = w

/-- The words of the maps of R54 and R56, written out. -/
def Obligations.MapWordsDecodeAsListed : Prop :=
  (∀ d, decodeBus 0b0000#4 d = .rdCtrl ∧ decodeBus 0b0001#4 d = .rdStatus ∧ decodeBus 0b0010#4 d = .rdReading ∧
    decodeBus 0b0011#4 d = .rdRaw0 ∧ decodeBus 0b0100#4 d = .rdRaw1 ∧ decodeBus 0b1000#4 d = .wrCtrl d ∧
    decodeBus 0b1001#4 d = .wrStatus d ∧ decodeBus 0b1111#4 d = .wrRsvd7 d) ∧
  decodeFsm 0b0000#4 = .idle ∧ decodeFsm 0b0001#4 = .startLow ∧ decodeFsm 0b0010#4 = .release ∧
  decodeFsm 0b0101#4 = .ackHigh ∧ decodeFsm 0b0111#4 = .bitHigh ∧ decodeFsm 0b1000#4 = .check ∧
  decodeFsm 0b1001#4 = .fsmUnused9 ∧ decodeFsm 0b1011#4 = .fsmUnused10To11 1#1 ∧
  decodeFsm 0b1110#4 = .fsmUnused12To15 2#2

/-! ### The step -/

/-- A step is one clock cycle (R12): the transaction of the cycle's inputs, where `bus_sel` is 1, then the operation of the state code and
the clock edge; with `rst` no operation runs and the edge resets (R134). -/
def Obligations.StepRunsTheDecodedInstructions : Prop :=
  (∀ s : State, s.Accepted → s.nextInput.busSel = false → step s = fsmPhase s.sample) ∧
  (∀ (s : State) (i : Instr), s.Accepted → s.nextInput.busSel = true →
    decodeBus (txnOf s.nextInput.busWe s.nextInput.busIdx) s.nextInput.busWdata = i →
    step s = match exec i s.sample with
      | .next u => fsmPhase u
      | .fault f => .fault f
      | .refused r => .refused r) ∧
  (∀ (u : State) (i : Instr), u.pins.rst = false → decodeFsm u.state = i →
    fsmPhase u = match exec i u with
      | .next v => .next { v with sync1 := v.pins.lineI, lineS := v.sync1 }
      | .fault f => .fault f
      | .refused r => .refused r) ∧
  (∀ u : State, u.pins.rst = true → fsmPhase u = .next u.applyReset)

/-- What a cycle does before its instructions run: the ports take the oldest listed inputs, the pad is low while the SWPC drives
(R31, R33), `start_req` and `bus_rdata` start at 0 (R65, R67), and no element of R15 changes. -/
def Obligations.CycleBeginsWithItsInputs : Prop :=
  ∀ (s : State) (i : Input) (rest : List Input), s.inputs = i :: rest →
    s.sample =
      { s with
        pins := { i with lineI := if s.state = 1#4 ∧ i.rst = false then false else i.lineI },
        driveLowO := decide (s.state = 1#4 ∧ i.rst = false),
        startReq := false, busRdata := 0#32, inputs := rest, cycle := s.cycle + 1 }

/-- R9: a configuration that breaks one of its four conditions is refused. -/
def Obligations.BrokenConfigurationIsRefused : Prop :=
  ∀ s : State,
    (s.params.clkPerUs < 1 ∨ s.params.tStartUs < 18000 ∨ s.params.tBhUs ≤ 50 ∨
      2 ^ s.params.tcntW ≤
        max (max (s.params.tStartUs * s.params.clkPerUs) (s.params.tHsUs * s.params.clkPerUs + 4))
          (max (s.params.tBlUs * s.params.clkPerUs) (s.params.tBhUs * s.params.clkPerUs))) →
    step s = .refused .configuration

/-- R138 and R145 with 93_implementation_defined.md I14 and I15: another pad wiring, a second driver or a second host is refused. -/
def Obligations.BrokenPlatformIsRefused : Prop :=
  ∀ s : State, s.params.Wf →
    ((s.platform.openDrain = false ∨ s.platform.pullUp = false ∨ s.platform.pullDown = true ∨
        s.platform.padInterrupt = true) → step s = .refused .padWiring) ∧
    (s.platform.PadWired → (s.platform.soleDriver = false ∨ s.platform.soleHost = false) →
      step s = .refused .sharedLine)

/-! ### Host bus transactions -/

/-- R73 to R75: the reserved words read 0 in every state. -/
def Obligations.ReservedWordsReadZero : Prop :=
  ∀ (s : State) (d : Word),
    (decodeBus 0b0101#4 d = .rdRsvd5 ∧ exec .rdRsvd5 s = .next { s with busRdata := 0#32 }) ∧
    (decodeBus 0b0110#4 d = .rdRsvd6 ∧ exec .rdRsvd6 s = .next { s with busRdata := 0#32 }) ∧
    (decodeBus 0b0111#4 d = .rdRsvd7 ∧ exec .rdRsvd7 s = .next { s with busRdata := 0#32 })

/-- RD_CTRL, RD_READING, RD_RAW0 and RD_RAW1 complete in every state with the value of their register (R68, R70 to R72) and change nothing
else. -/
def Obligations.RegisterReadsGiveTheirValue : Prop :=
  ∀ s : State,
    exec .rdCtrl s = .next { s with busRdata := 0#32 } ∧
    exec .rdReading s = .next { s with busRdata := BitVec.ofNat 32 (s.temp.toNat * 65536 + s.hum.toNat) } ∧
    exec .rdRaw0 s = .next { s with busRdata := s.raw0 } ∧
    exec .rdRaw1 s = .next { s with busRdata := BitVec.ofNat 32 s.raw1.toNat }

/-- RD_STATUS completes with the status word of R26 whenever ERR is a code R115 produces. -/
def Obligations.StatusReadGivesTheStatusWord : Prop :=
  ∀ s : State, s.err ≠ 3#2 →
    exec .rdStatus s = .next { s with
      busRdata := BitVec.ofNat 32 (s.state.toNat * 256 + s.err.toNat * 8 + s.valid.toNat * 4 + s.done.toNat * 2 +
        s.busy.toNat) }

/-- RD_STATUS faults on ERR = 3. 93_implementation_defined.md I20 says that a model that observes ERR = 3 faults; that RD_STATUS is where it
observes it is the model's own reading (DEDUCED, assumption log 11), for R69 names no exception. -/
def Obligations.StatusReadOfReservedErrFaults : Prop :=
  ∀ s : State, s.err = 3#2 → exec .rdStatus s = .fault .reservedErr

/-- R79 to R83, and WR_STATUS and WR_READING with them: every write but WR_CTRL has no effect, whatever its operand. -/
def Obligations.IgnoredWritesChangeNothing : Prop :=
  ∀ (s : State) (d : Word),
    (decodeBus 0b1001#4 d = .wrStatus d ∧ exec (.wrStatus d) s = .next s) ∧
    (decodeBus 0b1010#4 d = .wrReading d ∧ exec (.wrReading d) s = .next s) ∧
    (decodeBus 0b1011#4 d = .wrRaw0 d ∧ exec (.wrRaw0 d) s = .next s) ∧
    (decodeBus 0b1100#4 d = .wrRaw1 d ∧ exec (.wrRaw1 d) s = .next s) ∧
    (decodeBus 0b1101#4 d = .wrRsvd5 d ∧ exec (.wrRsvd5 d) s = .next s) ∧
    (decodeBus 0b1110#4 d = .wrRsvd6 d ∧ exec (.wrRsvd6 d) s = .next s) ∧
    (decodeBus 0b1111#4 d = .wrRsvd7 d ∧ exec (.wrRsvd7 d) s = .next s)

/-- WR_CTRL raises `start_req` from bit 0 of its operand, not in a reset cycle, and changes nothing else (R53, R76). -/
def Obligations.CtrlWriteRaisesStartRequest : Prop :=
  ∀ (s : State) (d : Word),
    exec (.wrCtrl d) s = .next { s with startReq := d.getLsbD 0 && !s.pins.rst }

/-- The frame of the bus transactions: no element of R15 changes, every register of the host space reads as before. -/
def Obligations.BusTransactionsKeepTheState : Prop :=
  ∀ (i : Instr) (s t : State), i.format = .bus → exec i s = .next t →
    t = { s with startReq := t.startReq, busRdata := t.busRdata } ∧
    ((∀ d, i ≠ .wrCtrl d) → t.startReq = s.startReq) ∧
    (i.code.getLsbD 3 = true → t.busRdata = s.busRdata) ∧
    ∀ r : Reg, t.readReg r = s.readReg r

/-! ### FSM operations -/

/-- IDLE (R86): an accepted START begins a read and clears flags, results, frame and counters; without it nothing changes. -/
def Obligations.IdleOperation : Prop :=
  ∀ s : State,
    exec .idle s = .next
      (if s.startReq then
        { s with
          state := 1#4, tcnt := 1, bitcnt := 0#6, shreg := 0#40, busy := true, done := false, valid := false, err := 0#2,
          hum := 0#16, temp := 0#16, raw0 := 0#32, raw1 := 0#8 }
      else s)

/-- START_LOW (R87). -/
def Obligations.StartLowOperation : Prop :=
  ∀ s : State,
    exec .startLow s = .next
      (if s.params.tStartUs * s.params.clkPerUs ≤ s.tcnt then { s with state := 2#4, tcnt := 1 }
      else { s with tcnt := s.tcnt + 1 })

/-- RELEASE, RESP, ACK_LOW and ACK_HIGH (R88 to R91): the awaited edge moves on, else the window's end completes with TIMEOUT, else the
count goes on. -/
def Obligations.HandshakeOperations : Prop :=
  ∀ s : State,
    exec .release s = .next
      (if s.lineS = true then { s with state := 3#4, tcnt := s.tcnt + 1 }
      else if s.params.tHsUs * s.params.clkPerUs ≤ s.tcnt then
        { s with state := 0#4, tcnt := 0, busy := false, done := true, err := 1#2, valid := false }
      else { s with tcnt := s.tcnt + 1 }) ∧
    exec .resp s = .next
      (if s.lineS = false then { s with state := 4#4, tcnt := s.tcnt + 1 }
      else if s.params.tHsUs * s.params.clkPerUs ≤ s.tcnt then
        { s with state := 0#4, tcnt := 0, busy := false, done := true, err := 1#2, valid := false }
      else { s with tcnt := s.tcnt + 1 }) ∧
    exec .ackLow s = .next
      (if s.lineS = true then { s with state := 5#4, tcnt := s.tcnt + 1 }
      else if s.params.tHsUs * s.params.clkPerUs ≤ s.tcnt then
        { s with state := 0#4, tcnt := 0, busy := false, done := true, err := 1#2, valid := false }
      else { s with tcnt := s.tcnt + 1 }) ∧
    exec .ackHigh s = .next
      (if s.lineS = false then { s with state := 6#4, tcnt := 1 }
      else if s.params.tHsUs * s.params.clkPerUs ≤ s.tcnt then
        { s with state := 0#4, tcnt := 0, busy := false, done := true, err := 1#2, valid := false }
      else { s with tcnt := s.tcnt + 1 })

/-- BIT_LOW (R97). -/
def Obligations.BitLowOperation : Prop :=
  ∀ s : State,
    exec .bitLow s = .next
      (if s.lineS = true then { s with state := 7#4, tcnt := 1 }
      else if s.params.tBlUs * s.params.clkPerUs ≤ s.tcnt then
        { s with state := 0#4, tcnt := 0, busy := false, done := true, err := 1#2, valid := false }
      else { s with tcnt := s.tcnt + 1 })

/-- BIT_HIGH (R98): at the falling edge the bit `H > T_TH_CYC` enters at the least significant end of the frame and the bit counter
goes up; the 40th bit leads to CHECK. -/
def Obligations.BitHighOperation : Prop :=
  ∀ s : State,
    (s.lineS = false →
      ∃ f : Frame,
        f.toNat = (2 * s.shreg.toNat + (if 50 * s.params.clkPerUs < s.tcnt then 1 else 0)) % 2 ^ 40 ∧
        exec .bitHigh s = .next
          (if s.bitcnt = 39#6 then { s with shreg := f, bitcnt := s.bitcnt + 1#6, state := 8#4, tcnt := 0 }
          else { s with shreg := f, bitcnt := s.bitcnt + 1#6, state := 6#4, tcnt := 1 })) ∧
    (s.lineS = true →
      exec .bitHigh s = .next
        (if s.params.tBhUs * s.params.clkPerUs ≤ s.tcnt then
          { s with state := 0#4, tcnt := 0, busy := false, done := true, err := 1#2, valid := false }
        else { s with tcnt := s.tcnt + 1 }))

/-- CHECK (R104, R108, R109): with the checksum of R105 the result is posted and the read completes with NONE, without it no result
register is written and the read completes with CHECKSUM_FAILED. -/
def Obligations.CheckOperation : Prop :=
  ∀ (s : State) (b0 b1 b2 b3 b4 : Byte), s.shreg = b0 ++ b1 ++ b2 ++ b3 ++ b4 →
    ((b0.toNat + b1.toNat + b2.toNat + b3.toNat) % 256 = b4.toNat →
      exec .check s = .next { s with
        hum := BitVec.ofNat 16 ((b0.toNat * 256 + b1.toNat) / 10),
        temp := BitVec.ofNat 16 ((b2.toNat * 256 + b3.toNat) / 10),
        raw0 := b0 ++ b1 ++ b2 ++ b3, raw1 := b4,
        state := 0#4, tcnt := 0, busy := false, done := true, err := 0#2, valid := true }) ∧
    ((b0.toNat + b1.toNat + b2.toNat + b3.toNat) % 256 ≠ b4.toNat →
      exec .check s = .next { s with
        state := 0#4, tcnt := 0, busy := false, done := true, err := 2#2, valid := false })

/-- R62 and R113: the unused codes fault with `UnreachableState(state)`, as instructions and as the state of a step; no step from a used
code enters one, and reset leaves code 0. -/
def Obligations.UnusedCodesFaultAndAreNeverEntered : Prop :=
  (∀ s : State,
    exec .fsmUnused9 s = .fault (.unreachableState 9#4) ∧
    (∀ low : BitVec 1, exec (.fsmUnused10To11 low) s = .fault (.unreachableState (0b101#3 ++ low))) ∧
    (∀ low : BitVec 2, exec (.fsmUnused12To15 low) s = .fault (.unreachableState (0b11#2 ++ low)))) ∧
  (∀ s : State, s.Accepted → s.err ≠ 3#2 → s.nextInput.rst = false → 9 ≤ s.state.toNat →
    step s = .fault (.unreachableState s.state)) ∧
  (∀ s t : State, s.state.toNat ≤ 8 → step s = .next t → t.state.toNat ≤ 8) ∧
  State.reset.state = 0#4

/-- The frame of the FSM operations: what each leaves unchanged when it answers a next state. -/
def Obligations.FsmOperationsFrame : Prop :=
  ∀ (i : Instr) (s t : State), i.format = .fsm → exec i s = .next t →
    (t.sync1 = s.sync1 ∧ t.lineS = s.lineS ∧ t.pins = s.pins ∧ t.startReq = s.startReq ∧ t.driveLowO = s.driveLowO ∧
      t.busRdata = s.busRdata ∧ t.inputs = s.inputs ∧ t.cycle = s.cycle ∧ t.params = s.params ∧
      t.platform = s.platform) ∧
    (¬ (i = .idle ∧ s.startReq = true) → ¬ (i = .bitHigh ∧ s.lineS = false) →
      t.bitcnt = s.bitcnt ∧ t.shreg = s.shreg) ∧
    (¬ (i = .idle ∧ s.startReq = true) → ¬ (i = .check ∧ frameOk s.shreg = true) →
      t.hum = s.hum ∧ t.temp = s.temp ∧ t.raw0 = s.raw0 ∧ t.raw1 = s.raw1 ∧
      ∀ r : Reg, r ≠ .status → t.readReg r = s.readReg r) ∧
    (¬ (i = .idle ∧ s.startReq = true) → i ≠ .check → i = .idle ∨ t.state ≠ 0#4 →
      t.busy = s.busy ∧ t.done = s.done ∧ t.valid = s.valid ∧ t.err = s.err)

/-! ### Operands and shared operations -/

/-- R99: the bit decision is strict, and its boundary vectors. -/
def Obligations.BitDecisionIsStrict : Prop :=
  ∀ (p : Params),
    (∀ h : Nat, decideBit p h = decide (50 * p.clkPerUs < h)) ∧
    (p.clkPerUs = 1 → decideBit p 49 = false ∧ decideBit p 50 = false ∧ decideBit p 51 = true) ∧
    decideBit p (50 * p.clkPerUs) = false ∧ decideBit p (50 * p.clkPerUs + 1) = true

/-- R105: the checksum relation, its wrap and its all-zero frame, and that a mismatch is CHECKSUM_FAILED. -/
def Obligations.ChecksumIsTheSumOfFourBytesMod256 : Prop :=
  (∀ b0 b1 b2 b3 b4 : Byte,
    checksumOk b0 b1 b2 b3 b4 = true ↔ (b0.toNat + b1.toNat + b2.toNat + b3.toNat) % 256 = b4.toNat) ∧
  checksumOk 0xFF#8 0xFF#8 0xFF#8 0xFF#8 0xFC#8 = true ∧ checksumOk 0#8 0#8 0#8 0#8 0#8 = true ∧
  (∀ s : State,
    checksumOk (byte0 s.shreg) (byte1 s.shreg) (byte2 s.shreg) (byte3 s.shreg) (byte4 s.shreg) = false →
    ∃ t : State, exec .check s = .next t ∧ t.err = 2#2)

/-- R106 and R107: both values are the big-endian word divided by 10, unsigned and truncating, between 0 and 6553. -/
def Obligations.ExtractionDividesTheUnsignedWordByTen : Prop :=
  (∀ b0 b1 : Byte, (humidity b0 b1).toNat = (b0.toNat * 256 + b1.toNat) / 10 ∧ (humidity b0 b1).toNat ≤ 6553) ∧
  (∀ b2 b3 : Byte, (temperature b2 b3).toNat = (b2.toNat * 256 + b3.toNat) / 10 ∧
    (temperature b2 b3).toNat ≤ 6553) ∧
  humidity 0x02#8 0x1A#8 = 53#16 ∧ temperature 0x01#8 0x13#8 = 27#16 ∧ temperature 0x80#8 0x65#8 = 3286#16

/-- The wait template (R85): the condition is tested before the limit. -/
def Obligations.AwaitedEdgeBeatsTheTimeout : Prop :=
  ∀ (cond : Bool) (limit n : Nat) (target : Code) (s : State),
    (cond = true → s.waitFor cond limit target n = { s with state := target, tcnt := n }) ∧
    (cond = false → limit ≤ s.tcnt → s.waitFor cond limit target n = s.complete 1#2) ∧
    (cond = false → s.tcnt < limit → s.waitFor cond limit target n = { s with tcnt := s.tcnt + 1 })

/-- `Complete` (R118), the trap-entry analogue: what it writes, and that it writes nothing else. -/
def Obligations.CompletionWritesStatusOnly : Prop :=
  ∀ (code : BitVec 2) (s : State),
    s.complete code =
      { s with state := 0#4, tcnt := 0, busy := false, done := true, err := code, valid := decide (code = 0#2) }

/-! ### Ports and the synchronizer -/

/-- R31: `drive_low_o` is 1 exactly in START_LOW without `rst`; then the pad is low, otherwise it has the environment's level. -/
def Obligations.LineIsDrivenOnlyInStartLow : Prop :=
  ∀ s t : State, step s = .next t →
    (t.driveLowO = true ↔ s.state = 1#4 ∧ s.nextInput.rst = false) ∧
    (t.driveLowO = true → t.pins.lineI = false) ∧
    (t.driveLowO = false → t.pins.lineI = s.nextInput.lineI)

/-- R21: two flops, a delay of two cycles, reset to 1, and no operation that sees `line_i` itself. -/
def Obligations.SynchronizerDelaysTheLineByTwoCycles : Prop :=
  (∀ s t : State, step s = .next t → t.pins.rst = false → t.sync1 = t.pins.lineI ∧ t.lineS = s.sync1) ∧
  (∀ s t u : State, step s = .next t → step t = .next u → t.pins.rst = false → u.pins.rst = false →
    u.lineS = t.pins.lineI) ∧
  (∀ s t : State, step s = .next t → t.pins.rst = true → t.sync1 = true ∧ t.lineS = true) ∧
  (∀ (s t : State) (i : Input) (level : Bool), step (s.present i) = .next t →
    ∃ t' : State, step (s.present { i with lineI := level }) = .next t' ∧
      { t' with sync1 := t.sync1, pins := t.pins } = t)

/-! ### Reset -/

/-- R35: every element of the reset state, and what the host reads after reset (R137). -/
def Obligations.ResetStateValues : Prop :=
  let r := State.reset
  (r.state = 0#4 ∧ r.bitcnt = 0#6 ∧ r.sync1 = true ∧ r.lineS = true ∧ r.tcnt = 0 ∧ r.shreg = 0#40 ∧ r.busy = false ∧
    r.done = false ∧ r.valid = false ∧ r.err = 0#2 ∧ r.hum = 0#16 ∧ r.temp = 0#16 ∧ r.raw0 = 0#32 ∧ r.raw1 = 0#8) ∧
  ∀ reg : Reg, r.readReg reg = 0#32

/-- R134: a cycle with `rst` releases the line, answers its read with the registers at the start of the cycle, discards its write and leaves every
element at its reset value, whatever was in flight (R135); the parameters stay. -/
def Obligations.ResetCycleLeavesTheResetState : Prop :=
  ∀ s : State, s.Accepted → s.nextInput.rst = true → (s.err ≠ 3#2 ∨ s.nextInput.readsStatus = false) →
    step s = .next { State.reset with
      pins := s.nextInput, busRdata := s.busReadValue s.nextInput, inputs := s.inputs.tail, cycle := s.cycle + 1,
      params := s.params, platform := s.platform }

/-! ### Reads as the host sees them -/

/-- A START in IDLE (R76, R86, R47): the next state in full, with STATUS 0x00000101 and the results cleared. -/
def Obligations.StartIsAcceptedInIdle : Prop :=
  ∀ s : State, s.Accepted → s.state = 0#4 → s.nextInput.isStart = true →
    ∃ t : State, step s = .next t ∧
      t = { s with
        state := 1#4, tcnt := 1, bitcnt := 0#6, shreg := 0#40, busy := true, done := false, valid := false, err := 0#2,
        hum := 0#16, temp := 0#16, raw0 := 0#32, raw1 := 0#8, sync1 := s.nextInput.lineI, lineS := s.sync1,
        pins := s.nextInput, startReq := true, driveLowO := false, busRdata := 0#32, inputs := s.inputs.tail,
        cycle := s.cycle + 1 } ∧
      t.readReg .status = 0x101#32 ∧ t.readReg .reading = 0#32 ∧ t.readReg .raw0 = 0#32 ∧ t.readReg .raw1 = 0#32

/-- A START while a read is in flight is ignored without trace (R76, R133, R141): the step is the one without a transaction but for the ports. -/
def Obligations.StartIsIgnoredWhileBusy : Prop :=
  ∀ (s t : State) (i : Input), i.isStart = true → s.state ≠ 0#4 → step (s.present i) = .next t →
    ∃ t' : State, step (s.present { i with busSel := false }) = .next t' ∧
      t = { t' with pins := t.pins, startReq := true }

/-- No other transaction has an effect (R43, R65 to R67): the step is the one without a transaction but for the ports, and `bus_rdata` is
`BusRead` of the state at the start of the cycle. -/
def Obligations.OnlyStartHasAnEffect : Prop :=
  ∀ (s t : State) (i : Input), i.isStart = false → step (s.present i) = .next t →
    t.busRdata = s.busReadValue i ∧
    ∃ t' : State, step (s.present { i with busSel := false }) = .next t' ∧
      t = { t' with pins := t.pins, busRdata := t.busRdata }

/-- IDLE without a START (R86, R114): whatever the line does, nothing but the synchronizer and the ports changes. -/
def Obligations.IdleIgnoresTheLine : Prop :=
  ∀ (s : State) (i : Input), s.Accepted → s.state = 0#4 → s.err ≠ 3#2 → i.isStart = false → i.rst = false →
    step (s.present i) = .next { s with
      sync1 := i.lineI, lineS := s.sync1, pins := i, startReq := false, driveLowO := false,
      busRdata := s.busReadValue i, cycle := s.cycle + 1 }

/-- One line of host assembly `rd REG` (R64, R65) reads the register as it stands at the start of its cycle. -/
def Obligations.HostReadSeesTheStartOfTheCycle : Prop :=
  ∀ (s : State) (r : Reg), s.Accepted → s.state.toNat ≤ 8 → s.err ≠ 3#2 →
    ∃ t : State, runAsm (.rd r) s = .next t ∧ t.busRdata = s.readReg r

/-- DONE and the result last from completion to the next accepted START (R121, R142). -/
def Obligations.ResultLastsUntilTheNextStart : Prop :=
  ∀ s t : State, s.Inv → s.done = true → s.nextInput.rst = false → s.nextInput.isStart = false → step s = .next t →
    t.done = true ∧ t.err = s.err ∧ t.valid = s.valid ∧ ∀ r : Reg, t.readReg r = s.readReg r

/-- The table of R84: what the STATUS and READING of a completed read stand for. -/
def Obligations.ReadContractDecodesTheOutcome : Prop :=
  ∀ s : State, s.Inv → s.done = true →
    (s.valid = true ↔ s.err = 0#2) ∧
    (s.err = 0#2 → readResult (s.readReg .status) (s.readReg .reading) = some (.ok s.hum s.temp)) ∧
    (s.err = 1#2 → readResult (s.readReg .status) (s.readReg .reading) = some .timeout) ∧
    (s.err = 2#2 → readResult (s.readReg .status) (s.readReg .reading) = some .checksumFailed) ∧
    (s.err = 0#2 ∨ s.err = 1#2 ∨ s.err = 2#2)

/-- The values STATUS can show (R69). -/
def Obligations.StatusShowsOnlyLegalValues : Prop :=
  ∀ s : State, s.Inv →
    s.readReg .status = 0#32 ∨ s.readReg .status = 0x6#32 ∨ s.readReg .status = 0xA#32 ∨ s.readReg .status = 0x12#32 ∨
    (s.busy = true ∧ 1 ≤ s.state.toNat ∧ s.state.toNat ≤ 8 ∧
      s.readReg .status = BitVec.ofNat 32 (1 + 256 * s.state.toNat))

/-! ### Whole-machine rules -/

/-- R19: the moves of the state code. -/
def Obligations.StateMovesOnlyAlongThePath : Prop :=
  ∀ s t : State, step s = .next t → t.pins.rst = false →
    (s.state = 0#4 ∧ (t.state = 0#4 ∨ (t.state = 1#4 ∧ s.nextInput.isStart = true))) ∨
    (s.state = 1#4 ∧ (t.state = 1#4 ∨ t.state = 2#4)) ∨
    (s.state = 2#4 ∧ (t.state = 2#4 ∨ t.state = 3#4 ∨ t.state = 0#4)) ∨
    (s.state = 3#4 ∧ (t.state = 3#4 ∨ t.state = 4#4 ∨ t.state = 0#4)) ∨
    (s.state = 4#4 ∧ (t.state = 4#4 ∨ t.state = 5#4 ∨ t.state = 0#4)) ∨
    (s.state = 5#4 ∧ (t.state = 5#4 ∨ t.state = 6#4 ∨ t.state = 0#4)) ∨
    (s.state = 6#4 ∧ (t.state = 6#4 ∨ t.state = 7#4 ∨ t.state = 0#4)) ∨
    (s.state = 7#4 ∧ (t.state = 7#4 ∨ t.state = 6#4 ∨ (t.state = 8#4 ∧ s.bitcnt = 39#6) ∨ t.state = 0#4)) ∨
    (s.state = 8#4 ∧ t.state = 0#4)

/-- The result registers change only with an accepted START, a successful CHECK or a reset (R29, R30, R43). -/
def Obligations.ResultsChangeOnlyByStartOrCheck : Prop :=
  ∀ s t : State, step s = .next t → t.pins.rst = false →
    (t.hum = s.hum ∧ t.temp = s.temp ∧ t.raw0 = s.raw0 ∧ t.raw1 = s.raw1) ∨
    (s.state = 0#4 ∧ s.nextInput.isStart = true ∧ t.hum = 0#16 ∧ t.temp = 0#16 ∧ t.raw0 = 0#32 ∧ t.raw1 = 0#8) ∨
    (s.state = 8#4 ∧ frameOk s.shreg = true ∧ t.raw0 ++ t.raw1 = s.shreg ∧ t.valid = true)

/-- R116: a read in flight ends with TIMEOUT exactly where one of the six waits has used up its window without the awaited level. -/
def Obligations.TimeoutIsRaisedExactlyByTheWaits : Prop :=
  ∀ s t : State, step s = .next t → t.pins.rst = false → s.err = 0#2 →
    (t.err = 1#2 ↔
      (s.state = 2#4 ∧ s.lineS = false ∧ s.params.tHsCyc ≤ s.tcnt) ∨
      (s.state = 3#4 ∧ s.lineS = true ∧ s.params.tHsCyc ≤ s.tcnt) ∨
      (s.state = 4#4 ∧ s.lineS = false ∧ s.params.tHsCyc ≤ s.tcnt) ∨
      (s.state = 5#4 ∧ s.lineS = true ∧ s.params.tHsCyc ≤ s.tcnt) ∨
      (s.state = 6#4 ∧ s.lineS = false ∧ s.params.tBlCyc ≤ s.tcnt) ∨
      (s.state = 7#4 ∧ s.lineS = true ∧ s.params.tBhCyc ≤ s.tcnt))

/-- R117: CHECKSUM_FAILED is raised only by CHECK, after all 40 bits, on a frame that fails the relation of R105. -/
def Obligations.ChecksumFailureIsRaisedOnlyByCheck : Prop :=
  ∀ s t : State, s.Inv → step s = .next t → t.pins.rst = false → s.err ≠ 2#2 →
    (t.err = 2#2 ↔ s.state = 8#4 ∧ frameOk s.shreg = false) ∧ (t.err = 2#2 → s.bitcnt = 40#6)

/-- The source's invariant (R110, R123): the step that ends a read reports success exactly when CHECK saw the checksum hold, and exposes nothing
of the frame otherwise (R119). -/
def Obligations.ReadingIsEmittedIffTheChecksumHolds : Prop :=
  ∀ s t : State, s.Inv → s.state ≠ 0#4 → step s = .next t → t.pins.rst = false → t.state = 0#4 →
    t.done = true ∧ t.busy = false ∧
    (t.valid = true ↔ s.state = 8#4 ∧ frameOk s.shreg = true) ∧
    (t.valid = false → t.readReg .reading = 0#32 ∧ t.readReg .raw0 = 0#32 ∧ t.readReg .raw1 = 0#32) ∧
    (t.valid = true → t.err = 0#2) ∧ (t.valid = false → t.err = 1#2 ∨ t.err = 2#2)

/-- R37: no step changes a parameter or the platform. -/
def Obligations.ParametersNeverChange : Prop :=
  ∀ s t : State, step s = .next t → t.params = s.params ∧ t.platform = s.platform

/-- R144: the SWPC does not enforce the inter-read interval; no step depends on `MIN_INTERVAL_S`, so a START too soon runs the same
protocol. -/
def Obligations.InterReadIntervalIsNotEnforced : Prop :=
  ∀ (s t : State) (n : Nat), step s = .next t →
    step { s with params := { s.params with minIntervalS := n } } =
      .next { t with params := { t.params with minIntervalS := n } }

/-- The invariant holds at reset. -/
def Obligations.InvariantHoldsAtReset : Prop := State.reset.Inv

/-- The invariant of R18, R20, R22, R24, R27 to R30, R110 and R115 is kept by every step. -/
def Obligations.EveryStepKeepsTheInvariant : Prop :=
  ∀ s t : State, s.Inv → step s = .next t → t.Inv

/-- The synchronizer invariant holds at reset. -/
def Obligations.SynchronizerInvariantHoldsAtReset : Prop := State.reset.SyncInv

/-- R143 and the minimum of R150: the start pulse is never taken for the sensor's response, and no handshake is shorter than six
cycles. -/
def Obligations.EveryStepKeepsTheSynchronizerInvariant : Prop :=
  ∀ s t : State, s.SyncInv → step s = .next t → t.SyncInv

/-- The invariant of an accepted configuration leaves no step without a next state. -/
def Obligations.InvariantStatesAlwaysStep : Prop :=
  ∀ s : State, s.Inv → s.Accepted → ∃ t : State, step s = .next t

/-! ### Runs over any line draw -/

/-- R87, R150: the start pulse lasts exactly `T_START_CYC` cycles, with the line driven low in each and released in the next.
That k steps of a run are k cycles is the model's choice (assumption log 15). -/
def Obligations.StartPulseLastsExactlyItsWindow : Prop :=
  ∀ s : State, s.Accepted → s.NoReset → s.err ≠ 3#2 → s.state = 1#4 → s.tcnt = 1 →
    (∀ k : Nat, k < s.params.tStartCyc →
      ∃ t u : State, core.run k s = .next t ∧ t.state = 1#4 ∧ t.tcnt = k + 1 ∧ step t = .next u ∧
        u.driveLowO = true) ∧
    ∃ t u : State, core.run s.params.tStartCyc s = .next t ∧ t.state = 2#4 ∧ t.tcnt = 1 ∧ step t = .next u ∧
      u.driveLowO = false

/-- R92, the sufficient condition: the four levels of the handshake, the last edge within `T_HS_CYC` cycles of the release, lead to
the first BIT_LOW, whatever the single lengths (R93). The levels are those of `lineStream` (the model's choice, assumption log 15). -/
def Obligations.HandshakeWithinTheWindowSucceeds : Prop :=
  ∀ (s : State) (a b c d : Nat), s.Accepted → s.NoReset → s.err ≠ 3#2 → s.state = 2#4 → s.tcnt = 1 →
    1 ≤ b → 1 ≤ c → 1 ≤ d → a + b + c + d + 1 ≤ s.params.tHsCyc →
    List.replicate a false ++ List.replicate b true ++ List.replicate c false ++ List.replicate d true ++ [false]
      <+: s.lineStream →
    ∃ t : State, core.run (a + b + c + d + 1) s = .next t ∧ t.state = 6#4 ∧ t.tcnt = 1 ∧ t.bitcnt = s.bitcnt ∧
      t.shreg = s.shreg ∧ t.err = s.err

/-- R89: with no sensor, a line that stays high in RESP ends the read with TIMEOUT in the cycle with `tcnt == T_HS_CYC`.
The levels are those of `lineStream` (the model's choice, assumption log 15). -/
def Obligations.SilentLineTimesOut : Prop :=
  ∀ s : State, s.Accepted → s.NoReset → s.err ≠ 3#2 → s.state = 3#4 → s.tcnt ≤ s.params.tHsCyc →
    List.replicate (s.params.tHsCyc - s.tcnt + 1) true <+: s.lineStream →
    (∃ t : State, core.run (s.params.tHsCyc - s.tcnt) s = .next t ∧ t.state = 3#4 ∧ t.tcnt = s.params.tHsCyc) ∧
    ∃ t : State, core.run (s.params.tHsCyc - s.tcnt + 1) s = .next t ∧ t.state = 0#4 ∧ t.done = true ∧
      t.busy = false ∧ t.valid = false ∧ t.err = 1#2

/-- R96 to R102: a symbol within its windows is received in `low + high + 1` cycles as the bit `Decide(high)`. The levels
are those of `lineStream` (the model's choice, assumption log 15). -/
def Obligations.OneSymbolIsReceivedAsItsBit : Prop :=
  ∀ (s : State) (low high : Nat), s.Accepted → s.NoReset → s.err ≠ 3#2 → s.state = 6#4 → s.tcnt = 1 →
    SymbolFits s.params (low, high) → symbolLevels low high <+: s.lineStream →
    ∃ t : State, core.run (low + high + 1) s = .next t ∧ t.shreg = shiftIn s.shreg (decideBit s.params high) ∧
      t.bitcnt = s.bitcnt + 1#6 ∧
      (s.bitcnt = 39#6 → t.state = 8#4 ∧ t.tcnt = 0) ∧ (s.bitcnt ≠ 39#6 → t.state = 6#4 ∧ t.tcnt = 1)

/-- R102, then CHECK (R104, R108, R109) and the two properties of 95_test_vectors.md L1.3: forty symbols within their windows reach CHECK with
bit `39 - i` of the frame equal to `Decide(H_i)`, and the next cycle posts the Reading or CHECKSUM_FAILED. The levels are those of `lineStream`
(the model's choice, assumption log 15). -/
def Obligations.FortySymbolsAreDecodedAndPosted : Prop :=
  ∀ (s : State) (syms : List (Nat × Nat)), s.Accepted → s.NoReset → s.err ≠ 3#2 → s.state = 6#4 → s.tcnt = 1 →
    s.bitcnt = 0#6 → syms.length = 40 → (∀ sym ∈ syms, SymbolFits s.params sym) →
    frameLevels syms <+: s.lineStream →
    ∃ t u : State, core.run (frameLevels syms).length s = .next t ∧ t.state = 8#4 ∧ t.bitcnt = 40#6 ∧
      (∀ (i : Nat) (hi : i < syms.length),
        t.shreg.getLsbD (39 - i) = decide (50 * s.params.clkPerUs < syms[i].2)) ∧
      step t = .next u ∧ u.state = 0#4 ∧ u.done = true ∧
      (frameOk t.shreg = true →
        u.valid = true ∧ u.err = 0#2 ∧ u.hum = humidity (byte0 t.shreg) (byte1 t.shreg) ∧
        u.temp = temperature (byte2 t.shreg) (byte3 t.shreg) ∧ u.raw0 ++ u.raw1 = t.shreg) ∧
      (frameOk t.shreg = false → u.valid = false ∧ u.err = 2#2 ∧ u.hum = s.hum ∧ u.temp = s.temp ∧
        u.raw0 = s.raw0 ∧ u.raw1 = s.raw1)

/-- R151: every read completes by the bound, for every line draw and whatever else the host does short of a reset; the bound with the
defaults and `CLK_PER_US = 1` is cycle 37104. -/
def Obligations.EveryReadTerminatesWithinTheBound : Prop :=
  (∀ s : State, s.Accepted → s.NoReset → s.state = 0#4 → s.nextInput.isStart = true →
    ∃ (c : Nat) (t : State),
      c ≤ s.params.tStartCyc + (s.params.tHsCyc + 3) + 40 * (s.params.tBlCyc + s.params.tBhCyc) + 1 ∧ 1 ≤ c ∧
      core.run (c + 1) s = .next t ∧ t.state = 0#4 ∧ t.done = true ∧ t.busy = false) ∧
  resetParams.readBound = 37104
end

