-- ==== Sys2Proof/Laws/Decode.lean ====
section
/-! SUPPORT. What the decoders and the encoder give, said once, and that the opcode table is unambiguous (spec/30_encoding.md R54, R56). -/

namespace Sys2Proof

/-- A row of the opcode table: format, mask, pattern. -/
structure TableRow where
  format : Format
  mask : BitVec 4
  pattern : BitVec 4
  deriving DecidableEq, Repr

/-- The word matches the row. -/
def TableRow.covers (r : TableRow) (c : BitVec 4) : Bool := c &&& r.mask == r.pattern

/-- The 16 bus rows, as R54 lists them. -/
def busRows : List TableRow := (List.range 16).map fun n => ⟨.bus, 0b1111#4, BitVec.ofNat 4 n⟩

/-- The 12 fsm rows, as R56 lists them. -/
def fsmRows : List TableRow :=
  ((List.range 10).map fun n => ⟨.fsm, 0b1111#4, BitVec.ofNat 4 n⟩) ++
    [⟨.fsm, 0b1110#4, 0b1010#4⟩, ⟨.fsm, 0b1100#4, 0b1100#4⟩]

/-- R54: every one of the 16 transaction words is covered by exactly one bus row. -/
theorem busRows_cover_once : ∀ c : BitVec 4, (busRows.filter (·.covers c)).length = 1 := by decide

/-- R56: "The 12 rows cover all 16 codes exactly once." -/
theorem fsmRows_cover_once : ∀ c : BitVec 4, (fsmRows.filter (·.covers c)).length = 1 := by decide

/-- Every state code is one of the nine states or an unused one, and decodes to its operation (R56). -/
theorem decodeFsm_cases (c : Code) :
    (c = 0#4 ∧ decodeFsm c = .idle) ∨ (c = 1#4 ∧ decodeFsm c = .startLow) ∨
    (c = 2#4 ∧ decodeFsm c = .release) ∨ (c = 3#4 ∧ decodeFsm c = .resp) ∨
    (c = 4#4 ∧ decodeFsm c = .ackLow) ∨ (c = 5#4 ∧ decodeFsm c = .ackHigh) ∨
    (c = 6#4 ∧ decodeFsm c = .bitLow) ∨ (c = 7#4 ∧ decodeFsm c = .bitHigh) ∨
    (c = 8#4 ∧ decodeFsm c = .check) ∨
    (9 ≤ c.toNat ∧ (decodeFsm c = .fsmUnused9 ∨ (∃ l, decodeFsm c = .fsmUnused10To11 l) ∨
      ∃ l, decodeFsm c = .fsmUnused12To15 l)) := by
  revert c; decide

/-- Every transaction word is a read or a write of one register, and decodes to it (R52, R54). -/
theorem decodeBus_cases (c : Txn) (d : Word) :
    (decodeBus c d = .rdCtrl ∧ c = 0#4) ∨ (decodeBus c d = .rdStatus ∧ c = 1#4) ∨
    (decodeBus c d = .rdReading ∧ c = 2#4) ∨ (decodeBus c d = .rdRaw0 ∧ c = 3#4) ∨
    (decodeBus c d = .rdRaw1 ∧ c = 4#4) ∨ (decodeBus c d = .rdRsvd5 ∧ c = 5#4) ∨
    (decodeBus c d = .rdRsvd6 ∧ c = 6#4) ∨ (decodeBus c d = .rdRsvd7 ∧ c = 7#4) ∨
    (decodeBus c d = .wrCtrl d ∧ c = 8#4) ∨ (decodeBus c d = .wrStatus d ∧ c = 9#4) ∨
    (decodeBus c d = .wrReading d ∧ c = 10#4) ∨ (decodeBus c d = .wrRaw0 d ∧ c = 11#4) ∨
    (decodeBus c d = .wrRaw1 d ∧ c = 12#4) ∨ (decodeBus c d = .wrRsvd5 d ∧ c = 13#4) ∨
    (decodeBus c d = .wrRsvd6 d ∧ c = 14#4) ∨ (decodeBus c d = .wrRsvd7 d ∧ c = 15#4) := by
  have h : c = 0#4 ∨ c = 1#4 ∨ c = 2#4 ∨ c = 3#4 ∨ c = 4#4 ∨ c = 5#4 ∨ c = 6#4 ∨ c = 7#4 ∨ c = 8#4 ∨
      c = 9#4 ∨ c = 10#4 ∨ c = 11#4 ∨ c = 12#4 ∨ c = 13#4 ∨ c = 14#4 ∨ c = 15#4 := by
    revert c; decide
  rcases h with h | h | h | h | h | h | h | h | h | h | h | h | h | h | h | h <;> subst h <;> simp [decodeBus]

@[simp] theorem regOf_idx (r : Reg) : regOf r.idx = r := by cases r <;> rfl

/-- The register of every index is the one R44 lists there. -/
theorem idx_regOf : ∀ i : BitVec 3, (regOf i).idx = i := by decide

/-- The code field reads back (R52, R55). -/
theorem wordCode_fields (d : Word) (f : Bool) (c : BitVec 4) :
    wordCode (d ++ 0#3 ++ BitVec.ofBool f ++ c) = c := by
  unfold wordCode
  exact (BitVec.extractLsb'_append_eq_of_add_le (by omega)).trans (by simp)

/-- The format bit reads back (assumption log 1). -/
theorem wordIsFsm_fields (d : Word) (f : Bool) (c : BitVec 4) :
    wordIsFsm (d ++ 0#3 ++ BitVec.ofBool f ++ c) = f := by
  unfold wordIsFsm
  rw [BitVec.getLsbD_append, BitVec.getLsbD_append]
  simp

/-- The padding of a laid-out word is zero (assumption log 1). -/
theorem wordPadding_fields (d : Word) (f : Bool) (c : BitVec 4) :
    wordPadding (d ++ 0#3 ++ BitVec.ofBool f ++ c) = 0#3 := by
  unfold wordPadding
  ext i hi
  rw [BitVec.getElem_extractLsb', BitVec.getLsbD_append, BitVec.getLsbD_append, BitVec.getLsbD_append]
  have h1 : ¬ 5 + i < 4 := by omega
  have h2 : ¬ 5 + i - 4 < 1 := by omega
  have h3 : 5 + i - 4 - 1 < 3 := by omega
  simp [h1, h2, h3]

/-- The operand reads back (R53). -/
theorem wordOperand_fields (d : Word) (f : Bool) (c : BitVec 4) :
    wordOperand (d ++ 0#3 ++ BitVec.ofBool f ++ c) = d := by
  unfold wordOperand
  ext i hi
  rw [BitVec.getElem_extractLsb', BitVec.getLsbD_append, BitVec.getLsbD_append, BitVec.getLsbD_append]
  have h1 : ¬ 8 + i < 4 := by omega
  have h2 : ¬ 8 + i - 4 < 1 := by omega
  have h3 : ¬ 8 + i - 4 - 1 < 3 := by omega
  have h4 : 8 + i - 4 - 1 - 3 = i := by omega
  simp [h1, h2, h3, h4, BitVec.getLsbD_eq_getElem hi]

end Sys2Proof
end

