-- ==== Sys2Proof/Laws/State.lean ====
section
/-! SUPPORT. One lemma per field per update of the state, so that no proof unfolds a record update. -/

namespace Sys2Proof.Machine.State

section Respond
variable (v : Word) (s : State)
@[simp] theorem respond_state : (s.respond v).state = s.state := rfl
@[simp] theorem respond_bitcnt : (s.respond v).bitcnt = s.bitcnt := rfl
@[simp] theorem respond_sync1 : (s.respond v).sync1 = s.sync1 := rfl
@[simp] theorem respond_lineS : (s.respond v).lineS = s.lineS := rfl
@[simp] theorem respond_tcnt : (s.respond v).tcnt = s.tcnt := rfl
@[simp] theorem respond_shreg : (s.respond v).shreg = s.shreg := rfl
@[simp] theorem respond_busy : (s.respond v).busy = s.busy := rfl
@[simp] theorem respond_done : (s.respond v).done = s.done := rfl
@[simp] theorem respond_valid : (s.respond v).valid = s.valid := rfl
@[simp] theorem respond_err : (s.respond v).err = s.err := rfl
@[simp] theorem respond_hum : (s.respond v).hum = s.hum := rfl
@[simp] theorem respond_temp : (s.respond v).temp = s.temp := rfl
@[simp] theorem respond_raw0 : (s.respond v).raw0 = s.raw0 := rfl
@[simp] theorem respond_raw1 : (s.respond v).raw1 = s.raw1 := rfl
@[simp] theorem respond_pins : (s.respond v).pins = s.pins := rfl
@[simp] theorem respond_startReq : (s.respond v).startReq = s.startReq := rfl
@[simp] theorem respond_driveLowO : (s.respond v).driveLowO = s.driveLowO := rfl
@[simp] theorem respond_busRdata : (s.respond v).busRdata = v := rfl
@[simp] theorem respond_inputs : (s.respond v).inputs = s.inputs := rfl
@[simp] theorem respond_cycle : (s.respond v).cycle = s.cycle := rfl
@[simp] theorem respond_params : (s.respond v).params = s.params := rfl
@[simp] theorem respond_platform : (s.respond v).platform = s.platform := rfl
end Respond

section Goto
variable (c : Code) (n : Nat) (s : State)
@[simp] theorem goto_state : (s.goto c n).state = c := rfl
@[simp] theorem goto_bitcnt : (s.goto c n).bitcnt = s.bitcnt := rfl
@[simp] theorem goto_sync1 : (s.goto c n).sync1 = s.sync1 := rfl
@[simp] theorem goto_lineS : (s.goto c n).lineS = s.lineS := rfl
@[simp] theorem goto_tcnt : (s.goto c n).tcnt = n := rfl
@[simp] theorem goto_shreg : (s.goto c n).shreg = s.shreg := rfl
@[simp] theorem goto_busy : (s.goto c n).busy = s.busy := rfl
@[simp] theorem goto_done : (s.goto c n).done = s.done := rfl
@[simp] theorem goto_valid : (s.goto c n).valid = s.valid := rfl
@[simp] theorem goto_err : (s.goto c n).err = s.err := rfl
@[simp] theorem goto_hum : (s.goto c n).hum = s.hum := rfl
@[simp] theorem goto_temp : (s.goto c n).temp = s.temp := rfl
@[simp] theorem goto_raw0 : (s.goto c n).raw0 = s.raw0 := rfl
@[simp] theorem goto_raw1 : (s.goto c n).raw1 = s.raw1 := rfl
@[simp] theorem goto_pins : (s.goto c n).pins = s.pins := rfl
@[simp] theorem goto_startReq : (s.goto c n).startReq = s.startReq := rfl
@[simp] theorem goto_driveLowO : (s.goto c n).driveLowO = s.driveLowO := rfl
@[simp] theorem goto_busRdata : (s.goto c n).busRdata = s.busRdata := rfl
@[simp] theorem goto_inputs : (s.goto c n).inputs = s.inputs := rfl
@[simp] theorem goto_cycle : (s.goto c n).cycle = s.cycle := rfl
@[simp] theorem goto_params : (s.goto c n).params = s.params := rfl
@[simp] theorem goto_platform : (s.goto c n).platform = s.platform := rfl
end Goto

section Tick
variable (s : State)
@[simp] theorem tick_state : (s.tick).state = s.state := rfl
@[simp] theorem tick_bitcnt : (s.tick).bitcnt = s.bitcnt := rfl
@[simp] theorem tick_sync1 : (s.tick).sync1 = s.sync1 := rfl
@[simp] theorem tick_lineS : (s.tick).lineS = s.lineS := rfl
@[simp] theorem tick_tcnt : (s.tick).tcnt = s.tcnt + 1 := rfl
@[simp] theorem tick_shreg : (s.tick).shreg = s.shreg := rfl
@[simp] theorem tick_busy : (s.tick).busy = s.busy := rfl
@[simp] theorem tick_done : (s.tick).done = s.done := rfl
@[simp] theorem tick_valid : (s.tick).valid = s.valid := rfl
@[simp] theorem tick_err : (s.tick).err = s.err := rfl
@[simp] theorem tick_hum : (s.tick).hum = s.hum := rfl
@[simp] theorem tick_temp : (s.tick).temp = s.temp := rfl
@[simp] theorem tick_raw0 : (s.tick).raw0 = s.raw0 := rfl
@[simp] theorem tick_raw1 : (s.tick).raw1 = s.raw1 := rfl
@[simp] theorem tick_pins : (s.tick).pins = s.pins := rfl
@[simp] theorem tick_startReq : (s.tick).startReq = s.startReq := rfl
@[simp] theorem tick_driveLowO : (s.tick).driveLowO = s.driveLowO := rfl
@[simp] theorem tick_busRdata : (s.tick).busRdata = s.busRdata := rfl
@[simp] theorem tick_inputs : (s.tick).inputs = s.inputs := rfl
@[simp] theorem tick_cycle : (s.tick).cycle = s.cycle := rfl
@[simp] theorem tick_params : (s.tick).params = s.params := rfl
@[simp] theorem tick_platform : (s.tick).platform = s.platform := rfl
end Tick

section FlagsOnStart
variable (s : State)
@[simp] theorem flagsOnStart_state : (s.flagsOnStart).state = s.state := rfl
@[simp] theorem flagsOnStart_bitcnt : (s.flagsOnStart).bitcnt = s.bitcnt := rfl
@[simp] theorem flagsOnStart_sync1 : (s.flagsOnStart).sync1 = s.sync1 := rfl
@[simp] theorem flagsOnStart_lineS : (s.flagsOnStart).lineS = s.lineS := rfl
@[simp] theorem flagsOnStart_tcnt : (s.flagsOnStart).tcnt = s.tcnt := rfl
@[simp] theorem flagsOnStart_shreg : (s.flagsOnStart).shreg = s.shreg := rfl
@[simp] theorem flagsOnStart_busy : (s.flagsOnStart).busy = true := rfl
@[simp] theorem flagsOnStart_done : (s.flagsOnStart).done = false := rfl
@[simp] theorem flagsOnStart_valid : (s.flagsOnStart).valid = false := rfl
@[simp] theorem flagsOnStart_err : (s.flagsOnStart).err = 0#2 := rfl
@[simp] theorem flagsOnStart_hum : (s.flagsOnStart).hum = s.hum := rfl
@[simp] theorem flagsOnStart_temp : (s.flagsOnStart).temp = s.temp := rfl
@[simp] theorem flagsOnStart_raw0 : (s.flagsOnStart).raw0 = s.raw0 := rfl
@[simp] theorem flagsOnStart_raw1 : (s.flagsOnStart).raw1 = s.raw1 := rfl
@[simp] theorem flagsOnStart_pins : (s.flagsOnStart).pins = s.pins := rfl
@[simp] theorem flagsOnStart_startReq : (s.flagsOnStart).startReq = s.startReq := rfl
@[simp] theorem flagsOnStart_driveLowO : (s.flagsOnStart).driveLowO = s.driveLowO := rfl
@[simp] theorem flagsOnStart_busRdata : (s.flagsOnStart).busRdata = s.busRdata := rfl
@[simp] theorem flagsOnStart_inputs : (s.flagsOnStart).inputs = s.inputs := rfl
@[simp] theorem flagsOnStart_cycle : (s.flagsOnStart).cycle = s.cycle := rfl
@[simp] theorem flagsOnStart_params : (s.flagsOnStart).params = s.params := rfl
@[simp] theorem flagsOnStart_platform : (s.flagsOnStart).platform = s.platform := rfl
end FlagsOnStart

section FlagsOnComplete
variable (e : BitVec 2) (s : State)
@[simp] theorem flagsOnComplete_state : (s.flagsOnComplete e).state = s.state := rfl
@[simp] theorem flagsOnComplete_bitcnt : (s.flagsOnComplete e).bitcnt = s.bitcnt := rfl
@[simp] theorem flagsOnComplete_sync1 : (s.flagsOnComplete e).sync1 = s.sync1 := rfl
@[simp] theorem flagsOnComplete_lineS : (s.flagsOnComplete e).lineS = s.lineS := rfl
@[simp] theorem flagsOnComplete_tcnt : (s.flagsOnComplete e).tcnt = s.tcnt := rfl
@[simp] theorem flagsOnComplete_shreg : (s.flagsOnComplete e).shreg = s.shreg := rfl
@[simp] theorem flagsOnComplete_busy : (s.flagsOnComplete e).busy = false := rfl
@[simp] theorem flagsOnComplete_done : (s.flagsOnComplete e).done = true := rfl
@[simp] theorem flagsOnComplete_valid : (s.flagsOnComplete e).valid = (e == 0#2) := rfl
@[simp] theorem flagsOnComplete_err : (s.flagsOnComplete e).err = e := rfl
@[simp] theorem flagsOnComplete_hum : (s.flagsOnComplete e).hum = s.hum := rfl
@[simp] theorem flagsOnComplete_temp : (s.flagsOnComplete e).temp = s.temp := rfl
@[simp] theorem flagsOnComplete_raw0 : (s.flagsOnComplete e).raw0 = s.raw0 := rfl
@[simp] theorem flagsOnComplete_raw1 : (s.flagsOnComplete e).raw1 = s.raw1 := rfl
@[simp] theorem flagsOnComplete_pins : (s.flagsOnComplete e).pins = s.pins := rfl
@[simp] theorem flagsOnComplete_startReq : (s.flagsOnComplete e).startReq = s.startReq := rfl
@[simp] theorem flagsOnComplete_driveLowO : (s.flagsOnComplete e).driveLowO = s.driveLowO := rfl
@[simp] theorem flagsOnComplete_busRdata : (s.flagsOnComplete e).busRdata = s.busRdata := rfl
@[simp] theorem flagsOnComplete_inputs : (s.flagsOnComplete e).inputs = s.inputs := rfl
@[simp] theorem flagsOnComplete_cycle : (s.flagsOnComplete e).cycle = s.cycle := rfl
@[simp] theorem flagsOnComplete_params : (s.flagsOnComplete e).params = s.params := rfl
@[simp] theorem flagsOnComplete_platform : (s.flagsOnComplete e).platform = s.platform := rfl
end FlagsOnComplete

section Complete
variable (e : BitVec 2) (s : State)
@[simp] theorem complete_state : (s.complete e).state = 0#4 := rfl
@[simp] theorem complete_bitcnt : (s.complete e).bitcnt = s.bitcnt := rfl
@[simp] theorem complete_sync1 : (s.complete e).sync1 = s.sync1 := rfl
@[simp] theorem complete_lineS : (s.complete e).lineS = s.lineS := rfl
@[simp] theorem complete_tcnt : (s.complete e).tcnt = 0 := rfl
@[simp] theorem complete_shreg : (s.complete e).shreg = s.shreg := rfl
@[simp] theorem complete_busy : (s.complete e).busy = false := rfl
@[simp] theorem complete_done : (s.complete e).done = true := rfl
@[simp] theorem complete_valid : (s.complete e).valid = (e == 0#2) := rfl
@[simp] theorem complete_err : (s.complete e).err = e := rfl
@[simp] theorem complete_hum : (s.complete e).hum = s.hum := rfl
@[simp] theorem complete_temp : (s.complete e).temp = s.temp := rfl
@[simp] theorem complete_raw0 : (s.complete e).raw0 = s.raw0 := rfl
@[simp] theorem complete_raw1 : (s.complete e).raw1 = s.raw1 := rfl
@[simp] theorem complete_pins : (s.complete e).pins = s.pins := rfl
@[simp] theorem complete_startReq : (s.complete e).startReq = s.startReq := rfl
@[simp] theorem complete_driveLowO : (s.complete e).driveLowO = s.driveLowO := rfl
@[simp] theorem complete_busRdata : (s.complete e).busRdata = s.busRdata := rfl
@[simp] theorem complete_inputs : (s.complete e).inputs = s.inputs := rfl
@[simp] theorem complete_cycle : (s.complete e).cycle = s.cycle := rfl
@[simp] theorem complete_params : (s.complete e).params = s.params := rfl
@[simp] theorem complete_platform : (s.complete e).platform = s.platform := rfl
end Complete

section AcceptStart
variable (s : State)
@[simp] theorem acceptStart_state : (s.acceptStart).state = 1#4 := rfl
@[simp] theorem acceptStart_bitcnt : (s.acceptStart).bitcnt = 0#6 := rfl
@[simp] theorem acceptStart_sync1 : (s.acceptStart).sync1 = s.sync1 := rfl
@[simp] theorem acceptStart_lineS : (s.acceptStart).lineS = s.lineS := rfl
@[simp] theorem acceptStart_tcnt : (s.acceptStart).tcnt = 1 := rfl
@[simp] theorem acceptStart_shreg : (s.acceptStart).shreg = 0#40 := rfl
@[simp] theorem acceptStart_busy : (s.acceptStart).busy = true := rfl
@[simp] theorem acceptStart_done : (s.acceptStart).done = false := rfl
@[simp] theorem acceptStart_valid : (s.acceptStart).valid = false := rfl
@[simp] theorem acceptStart_err : (s.acceptStart).err = 0#2 := rfl
@[simp] theorem acceptStart_hum : (s.acceptStart).hum = 0#16 := rfl
@[simp] theorem acceptStart_temp : (s.acceptStart).temp = 0#16 := rfl
@[simp] theorem acceptStart_raw0 : (s.acceptStart).raw0 = 0#32 := rfl
@[simp] theorem acceptStart_raw1 : (s.acceptStart).raw1 = 0#8 := rfl
@[simp] theorem acceptStart_pins : (s.acceptStart).pins = s.pins := rfl
@[simp] theorem acceptStart_startReq : (s.acceptStart).startReq = s.startReq := rfl
@[simp] theorem acceptStart_driveLowO : (s.acceptStart).driveLowO = s.driveLowO := rfl
@[simp] theorem acceptStart_busRdata : (s.acceptStart).busRdata = s.busRdata := rfl
@[simp] theorem acceptStart_inputs : (s.acceptStart).inputs = s.inputs := rfl
@[simp] theorem acceptStart_cycle : (s.acceptStart).cycle = s.cycle := rfl
@[simp] theorem acceptStart_params : (s.acceptStart).params = s.params := rfl
@[simp] theorem acceptStart_platform : (s.acceptStart).platform = s.platform := rfl
end AcceptStart

section ShiftBit
variable (b : Bool) (s : State)
@[simp] theorem shiftBit_state : (s.shiftBit b).state = s.state := rfl
@[simp] theorem shiftBit_bitcnt : (s.shiftBit b).bitcnt = s.bitcnt + 1#6 := rfl
@[simp] theorem shiftBit_sync1 : (s.shiftBit b).sync1 = s.sync1 := rfl
@[simp] theorem shiftBit_lineS : (s.shiftBit b).lineS = s.lineS := rfl
@[simp] theorem shiftBit_tcnt : (s.shiftBit b).tcnt = s.tcnt := rfl
@[simp] theorem shiftBit_shreg : (s.shiftBit b).shreg = shiftIn s.shreg b := rfl
@[simp] theorem shiftBit_busy : (s.shiftBit b).busy = s.busy := rfl
@[simp] theorem shiftBit_done : (s.shiftBit b).done = s.done := rfl
@[simp] theorem shiftBit_valid : (s.shiftBit b).valid = s.valid := rfl
@[simp] theorem shiftBit_err : (s.shiftBit b).err = s.err := rfl
@[simp] theorem shiftBit_hum : (s.shiftBit b).hum = s.hum := rfl
@[simp] theorem shiftBit_temp : (s.shiftBit b).temp = s.temp := rfl
@[simp] theorem shiftBit_raw0 : (s.shiftBit b).raw0 = s.raw0 := rfl
@[simp] theorem shiftBit_raw1 : (s.shiftBit b).raw1 = s.raw1 := rfl
@[simp] theorem shiftBit_pins : (s.shiftBit b).pins = s.pins := rfl
@[simp] theorem shiftBit_startReq : (s.shiftBit b).startReq = s.startReq := rfl
@[simp] theorem shiftBit_driveLowO : (s.shiftBit b).driveLowO = s.driveLowO := rfl
@[simp] theorem shiftBit_busRdata : (s.shiftBit b).busRdata = s.busRdata := rfl
@[simp] theorem shiftBit_inputs : (s.shiftBit b).inputs = s.inputs := rfl
@[simp] theorem shiftBit_cycle : (s.shiftBit b).cycle = s.cycle := rfl
@[simp] theorem shiftBit_params : (s.shiftBit b).params = s.params := rfl
@[simp] theorem shiftBit_platform : (s.shiftBit b).platform = s.platform := rfl
end ShiftBit

section PostResult
variable (s : State)
@[simp] theorem postResult_state : (s.postResult).state = s.state := rfl
@[simp] theorem postResult_bitcnt : (s.postResult).bitcnt = s.bitcnt := rfl
@[simp] theorem postResult_sync1 : (s.postResult).sync1 = s.sync1 := rfl
@[simp] theorem postResult_lineS : (s.postResult).lineS = s.lineS := rfl
@[simp] theorem postResult_tcnt : (s.postResult).tcnt = s.tcnt := rfl
@[simp] theorem postResult_shreg : (s.postResult).shreg = s.shreg := rfl
@[simp] theorem postResult_busy : (s.postResult).busy = s.busy := rfl
@[simp] theorem postResult_done : (s.postResult).done = s.done := rfl
@[simp] theorem postResult_valid : (s.postResult).valid = s.valid := rfl
@[simp] theorem postResult_err : (s.postResult).err = s.err := rfl
@[simp] theorem postResult_hum : (s.postResult).hum = humidity (byte0 s.shreg) (byte1 s.shreg) := rfl
@[simp] theorem postResult_temp : (s.postResult).temp = temperature (byte2 s.shreg) (byte3 s.shreg) := rfl
@[simp] theorem postResult_raw0 : (s.postResult).raw0 = byte0 s.shreg ++ byte1 s.shreg ++ byte2 s.shreg ++ byte3 s.shreg := rfl
@[simp] theorem postResult_raw1 : (s.postResult).raw1 = byte4 s.shreg := rfl
@[simp] theorem postResult_pins : (s.postResult).pins = s.pins := rfl
@[simp] theorem postResult_startReq : (s.postResult).startReq = s.startReq := rfl
@[simp] theorem postResult_driveLowO : (s.postResult).driveLowO = s.driveLowO := rfl
@[simp] theorem postResult_busRdata : (s.postResult).busRdata = s.busRdata := rfl
@[simp] theorem postResult_inputs : (s.postResult).inputs = s.inputs := rfl
@[simp] theorem postResult_cycle : (s.postResult).cycle = s.cycle := rfl
@[simp] theorem postResult_params : (s.postResult).params = s.params := rfl
@[simp] theorem postResult_platform : (s.postResult).platform = s.platform := rfl
end PostResult

section Sample
variable (s : State)
@[simp] theorem sample_state : (s.sample).state = s.state := rfl
@[simp] theorem sample_bitcnt : (s.sample).bitcnt = s.bitcnt := rfl
@[simp] theorem sample_sync1 : (s.sample).sync1 = s.sync1 := rfl
@[simp] theorem sample_lineS : (s.sample).lineS = s.lineS := rfl
@[simp] theorem sample_tcnt : (s.sample).tcnt = s.tcnt := rfl
@[simp] theorem sample_shreg : (s.sample).shreg = s.shreg := rfl
@[simp] theorem sample_busy : (s.sample).busy = s.busy := rfl
@[simp] theorem sample_done : (s.sample).done = s.done := rfl
@[simp] theorem sample_valid : (s.sample).valid = s.valid := rfl
@[simp] theorem sample_err : (s.sample).err = s.err := rfl
@[simp] theorem sample_hum : (s.sample).hum = s.hum := rfl
@[simp] theorem sample_temp : (s.sample).temp = s.temp := rfl
@[simp] theorem sample_raw0 : (s.sample).raw0 = s.raw0 := rfl
@[simp] theorem sample_raw1 : (s.sample).raw1 = s.raw1 := rfl
@[simp] theorem sample_pins_rst : (s.sample).pins.rst = s.nextInput.rst := rfl
@[simp] theorem sample_pins_busSel : (s.sample).pins.busSel = s.nextInput.busSel := rfl
@[simp] theorem sample_pins_busWe : (s.sample).pins.busWe = s.nextInput.busWe := rfl
@[simp] theorem sample_pins_busIdx : (s.sample).pins.busIdx = s.nextInput.busIdx := rfl
@[simp] theorem sample_pins_busWdata : (s.sample).pins.busWdata = s.nextInput.busWdata := rfl
@[simp] theorem sample_pins_lineI : (s.sample).pins.lineI = padLevel (s.driveLow s.nextInput.rst) s.nextInput.lineI := rfl
@[simp] theorem sample_startReq : (s.sample).startReq = false := rfl
@[simp] theorem sample_driveLowO : (s.sample).driveLowO = s.driveLow s.nextInput.rst := rfl
@[simp] theorem sample_busRdata : (s.sample).busRdata = 0#32 := rfl
@[simp] theorem sample_inputs : (s.sample).inputs = s.inputs.tail := rfl
@[simp] theorem sample_cycle : (s.sample).cycle = s.cycle + 1 := rfl
@[simp] theorem sample_params : (s.sample).params = s.params := rfl
@[simp] theorem sample_platform : (s.sample).platform = s.platform := rfl
end Sample

section ShiftSync
variable (s : State)
@[simp] theorem shiftSync_state : (s.shiftSync).state = s.state := rfl
@[simp] theorem shiftSync_bitcnt : (s.shiftSync).bitcnt = s.bitcnt := rfl
@[simp] theorem shiftSync_sync1 : (s.shiftSync).sync1 = s.pins.lineI := rfl
@[simp] theorem shiftSync_lineS : (s.shiftSync).lineS = s.sync1 := rfl
@[simp] theorem shiftSync_tcnt : (s.shiftSync).tcnt = s.tcnt := rfl
@[simp] theorem shiftSync_shreg : (s.shiftSync).shreg = s.shreg := rfl
@[simp] theorem shiftSync_busy : (s.shiftSync).busy = s.busy := rfl
@[simp] theorem shiftSync_done : (s.shiftSync).done = s.done := rfl
@[simp] theorem shiftSync_valid : (s.shiftSync).valid = s.valid := rfl
@[simp] theorem shiftSync_err : (s.shiftSync).err = s.err := rfl
@[simp] theorem shiftSync_hum : (s.shiftSync).hum = s.hum := rfl
@[simp] theorem shiftSync_temp : (s.shiftSync).temp = s.temp := rfl
@[simp] theorem shiftSync_raw0 : (s.shiftSync).raw0 = s.raw0 := rfl
@[simp] theorem shiftSync_raw1 : (s.shiftSync).raw1 = s.raw1 := rfl
@[simp] theorem shiftSync_pins : (s.shiftSync).pins = s.pins := rfl
@[simp] theorem shiftSync_startReq : (s.shiftSync).startReq = s.startReq := rfl
@[simp] theorem shiftSync_driveLowO : (s.shiftSync).driveLowO = s.driveLowO := rfl
@[simp] theorem shiftSync_busRdata : (s.shiftSync).busRdata = s.busRdata := rfl
@[simp] theorem shiftSync_inputs : (s.shiftSync).inputs = s.inputs := rfl
@[simp] theorem shiftSync_cycle : (s.shiftSync).cycle = s.cycle := rfl
@[simp] theorem shiftSync_params : (s.shiftSync).params = s.params := rfl
@[simp] theorem shiftSync_platform : (s.shiftSync).platform = s.platform := rfl
end ShiftSync

section ApplyReset
variable (s : State)
@[simp] theorem applyReset_state : (s.applyReset).state = 0#4 := rfl
@[simp] theorem applyReset_bitcnt : (s.applyReset).bitcnt = 0#6 := rfl
@[simp] theorem applyReset_sync1 : (s.applyReset).sync1 = true := rfl
@[simp] theorem applyReset_lineS : (s.applyReset).lineS = true := rfl
@[simp] theorem applyReset_tcnt : (s.applyReset).tcnt = 0 := rfl
@[simp] theorem applyReset_shreg : (s.applyReset).shreg = 0#40 := rfl
@[simp] theorem applyReset_busy : (s.applyReset).busy = false := rfl
@[simp] theorem applyReset_done : (s.applyReset).done = false := rfl
@[simp] theorem applyReset_valid : (s.applyReset).valid = false := rfl
@[simp] theorem applyReset_err : (s.applyReset).err = 0#2 := rfl
@[simp] theorem applyReset_hum : (s.applyReset).hum = 0#16 := rfl
@[simp] theorem applyReset_temp : (s.applyReset).temp = 0#16 := rfl
@[simp] theorem applyReset_raw0 : (s.applyReset).raw0 = 0#32 := rfl
@[simp] theorem applyReset_raw1 : (s.applyReset).raw1 = 0#8 := rfl
@[simp] theorem applyReset_pins : (s.applyReset).pins = s.pins := rfl
@[simp] theorem applyReset_startReq : (s.applyReset).startReq = s.startReq := rfl
@[simp] theorem applyReset_driveLowO : (s.applyReset).driveLowO = s.driveLowO := rfl
@[simp] theorem applyReset_busRdata : (s.applyReset).busRdata = s.busRdata := rfl
@[simp] theorem applyReset_inputs : (s.applyReset).inputs = s.inputs := rfl
@[simp] theorem applyReset_cycle : (s.applyReset).cycle = s.cycle := rfl
@[simp] theorem applyReset_params : (s.applyReset).params = s.params := rfl
@[simp] theorem applyReset_platform : (s.applyReset).platform = s.platform := rfl
end ApplyReset

section Present
variable (i : Input) (s : State)
@[simp] theorem present_state : (s.present i).state = s.state := rfl
@[simp] theorem present_bitcnt : (s.present i).bitcnt = s.bitcnt := rfl
@[simp] theorem present_sync1 : (s.present i).sync1 = s.sync1 := rfl
@[simp] theorem present_lineS : (s.present i).lineS = s.lineS := rfl
@[simp] theorem present_tcnt : (s.present i).tcnt = s.tcnt := rfl
@[simp] theorem present_shreg : (s.present i).shreg = s.shreg := rfl
@[simp] theorem present_busy : (s.present i).busy = s.busy := rfl
@[simp] theorem present_done : (s.present i).done = s.done := rfl
@[simp] theorem present_valid : (s.present i).valid = s.valid := rfl
@[simp] theorem present_err : (s.present i).err = s.err := rfl
@[simp] theorem present_hum : (s.present i).hum = s.hum := rfl
@[simp] theorem present_temp : (s.present i).temp = s.temp := rfl
@[simp] theorem present_raw0 : (s.present i).raw0 = s.raw0 := rfl
@[simp] theorem present_raw1 : (s.present i).raw1 = s.raw1 := rfl
@[simp] theorem present_pins : (s.present i).pins = s.pins := rfl
@[simp] theorem present_startReq : (s.present i).startReq = s.startReq := rfl
@[simp] theorem present_driveLowO : (s.present i).driveLowO = s.driveLowO := rfl
@[simp] theorem present_busRdata : (s.present i).busRdata = s.busRdata := rfl
@[simp] theorem present_inputs : (s.present i).inputs = i :: s.inputs := rfl
@[simp] theorem present_cycle : (s.present i).cycle = s.cycle := rfl
@[simp] theorem present_params : (s.present i).params = s.params := rfl
@[simp] theorem present_platform : (s.present i).platform = s.platform := rfl
end Present

section WaitFor
variable (cond : Bool) (limit : Nat) (target : Code) (n : Nat) (s : State)

@[simp] theorem waitFor_bitcnt : (s.waitFor cond limit target n).bitcnt = s.bitcnt := by
  unfold waitFor; split <;> (try split) <;> rfl
@[simp] theorem waitFor_sync1 : (s.waitFor cond limit target n).sync1 = s.sync1 := by
  unfold waitFor; split <;> (try split) <;> rfl
@[simp] theorem waitFor_lineS : (s.waitFor cond limit target n).lineS = s.lineS := by
  unfold waitFor; split <;> (try split) <;> rfl
@[simp] theorem waitFor_shreg : (s.waitFor cond limit target n).shreg = s.shreg := by
  unfold waitFor; split <;> (try split) <;> rfl
@[simp] theorem waitFor_hum : (s.waitFor cond limit target n).hum = s.hum := by
  unfold waitFor; split <;> (try split) <;> rfl
@[simp] theorem waitFor_temp : (s.waitFor cond limit target n).temp = s.temp := by
  unfold waitFor; split <;> (try split) <;> rfl
@[simp] theorem waitFor_raw0 : (s.waitFor cond limit target n).raw0 = s.raw0 := by
  unfold waitFor; split <;> (try split) <;> rfl
@[simp] theorem waitFor_raw1 : (s.waitFor cond limit target n).raw1 = s.raw1 := by
  unfold waitFor; split <;> (try split) <;> rfl
@[simp] theorem waitFor_pins : (s.waitFor cond limit target n).pins = s.pins := by
  unfold waitFor; split <;> (try split) <;> rfl
@[simp] theorem waitFor_startReq : (s.waitFor cond limit target n).startReq = s.startReq := by
  unfold waitFor; split <;> (try split) <;> rfl
@[simp] theorem waitFor_driveLowO : (s.waitFor cond limit target n).driveLowO = s.driveLowO := by
  unfold waitFor; split <;> (try split) <;> rfl
@[simp] theorem waitFor_busRdata : (s.waitFor cond limit target n).busRdata = s.busRdata := by
  unfold waitFor; split <;> (try split) <;> rfl
@[simp] theorem waitFor_inputs : (s.waitFor cond limit target n).inputs = s.inputs := by
  unfold waitFor; split <;> (try split) <;> rfl
@[simp] theorem waitFor_cycle : (s.waitFor cond limit target n).cycle = s.cycle := by
  unfold waitFor; split <;> (try split) <;> rfl
@[simp] theorem waitFor_params : (s.waitFor cond limit target n).params = s.params := by
  unfold waitFor; split <;> (try split) <;> rfl
@[simp] theorem waitFor_platform : (s.waitFor cond limit target n).platform = s.platform := by
  unfold waitFor; split <;> (try split) <;> rfl
end WaitFor

end Sys2Proof.Machine.State
end

