-- ==== Sys2Proof/Laws/Ops.lean ====
section
/-! SUPPORT. What each shared operation can do, said once. -/

namespace Sys2Proof.Machine

@[simp] theorem codeIdle_eq : codeIdle = 0#4 := rfl
@[simp] theorem codeStartLow_eq : codeStartLow = 1#4 := rfl
@[simp] theorem codeRelease_eq : codeRelease = 2#4 := rfl
@[simp] theorem codeResp_eq : codeResp = 3#4 := rfl
@[simp] theorem codeAckLow_eq : codeAckLow = 4#4 := rfl
@[simp] theorem codeAckHigh_eq : codeAckHigh = 5#4 := rfl
@[simp] theorem codeBitLow_eq : codeBitLow = 6#4 := rfl
@[simp] theorem codeBitHigh_eq : codeBitHigh = 7#4 := rfl
@[simp] theorem codeCheck_eq : codeCheck = 8#4 := rfl
@[simp] theorem errNone_eq : errNone = 0#2 := rfl
@[simp] theorem errTimeout_eq : errTimeout = 1#2 := rfl
@[simp] theorem errChecksum_eq : errChecksum = 2#2 := rfl
@[simp] theorem errReserved_eq : errReserved = 3#2 := rfl

/-- Everything the wait template can do (R85). -/
theorem State.waitFor_cases (cond : Bool) (limit : Nat) (target : Code) (n : Nat) (s : State) :
    (cond = true ∧ s.waitFor cond limit target n = s.goto target n) ∨
    (cond = false ∧ limit ≤ s.tcnt ∧ s.waitFor cond limit target n = s.complete errTimeout) ∨
    (cond = false ∧ s.tcnt < limit ∧ s.waitFor cond limit target n = s.tick) := by
  unfold State.waitFor
  cases cond with
  | true => exact .inl ⟨rfl, rfl⟩
  | false =>
    by_cases h : limit ≤ s.tcnt
    · exact .inr (.inl ⟨rfl, h, by simp [h]⟩)
    · exact .inr (.inr ⟨rfl, by omega, by simp [h]⟩)

@[simp] theorem State.waitFor_true (limit : Nat) (target : Code) (n : Nat) (s : State) :
    s.waitFor true limit target n = s.goto target n := rfl

@[simp] theorem State.readReg_ctrl (s : State) : s.readReg .ctrl = 0#32 := rfl
@[simp] theorem State.readReg_status (s : State) : s.readReg .status = s.statusWord := rfl
@[simp] theorem State.readReg_reading (s : State) : s.readReg .reading = s.temp ++ s.hum := rfl
@[simp] theorem State.readReg_raw0 (s : State) : s.readReg .raw0 = s.raw0 := rfl
@[simp] theorem State.readReg_raw1 (s : State) : s.readReg .raw1 = s.raw1.setWidth 32 := rfl
@[simp] theorem State.readReg_rsvd5 (s : State) : s.readReg .rsvd5 = 0#32 := rfl
@[simp] theorem State.readReg_rsvd6 (s : State) : s.readReg .rsvd6 = 0#32 := rfl
@[simp] theorem State.readReg_rsvd7 (s : State) : s.readReg .rsvd7 = 0#32 := rfl

/-- The STATUS word depends on the state code and the four flags only (R26). -/
theorem State.statusWord_congr {s t : State} (h1 : s.state = t.state) (h2 : s.err = t.err)
    (h3 : s.valid = t.valid) (h4 : s.done = t.done) (h5 : s.busy = t.busy) :
    s.statusWord = t.statusWord := by
  simp only [State.statusWord, h1, h2, h3, h4, h5]

@[simp] theorem State.writeReg_status (d : Word) (s : State) : s.writeReg .status d = s := rfl
@[simp] theorem State.writeReg_reading (d : Word) (s : State) : s.writeReg .reading d = s := rfl
@[simp] theorem State.writeReg_raw0 (d : Word) (s : State) : s.writeReg .raw0 d = s := rfl
@[simp] theorem State.writeReg_raw1 (d : Word) (s : State) : s.writeReg .raw1 d = s := rfl
@[simp] theorem State.writeReg_rsvd5 (d : Word) (s : State) : s.writeReg .rsvd5 d = s := rfl
@[simp] theorem State.writeReg_rsvd6 (d : Word) (s : State) : s.writeReg .rsvd6 d = s := rfl
@[simp] theorem State.writeReg_rsvd7 (d : Word) (s : State) : s.writeReg .rsvd7 d = s := rfl

@[simp] theorem padLevel_driven (line : Bool) : padLevel true line = false := rfl
@[simp] theorem padLevel_released (line : Bool) : padLevel false line = line := rfl

@[simp] theorem State.nextInput_cons (s : State) (i : Input) (is : List Input) (h : s.inputs = i :: is) :
    s.nextInput = i := by simp [State.nextInput, h]

@[simp] theorem State.nextInput_present (s : State) (i : Input) : (s.present i).nextInput = i := rfl

/-- Where no input is listed the host presents nothing (assumption log 3). -/
theorem State.nextInput_nil (s : State) (h : s.inputs = []) :
    s.nextInput = Input.quiet (Config.lineDraw s.cycle) := by simp [State.nextInput, h]

/-- With no listed reset the next cycle has no reset. -/
theorem State.nextInput_no_reset (s : State) (h : ∀ i ∈ s.inputs, i.rst = false) : s.nextInput.rst = false := by
  unfold State.nextInput
  split
  · next i is heq => exact h i (by simp [heq])
  · rfl

/-- The model refuses nothing of an accepted configuration, and everything else. -/
theorem State.refusal_eq_none_iff (s : State) :
    s.refusal = none ↔ s.params.Wf ∧ s.platform.PadWired ∧ s.platform.Exclusive := by
  unfold State.refusal
  split
  · next h => simp [h]
  · next h1 =>
    split
    · next h => simp [h]
    · next h2 =>
      split
      · next h => simp [h]
      · next h3 => exact ⟨fun _ => ⟨not_not.mp h1, not_not.mp h2, not_not.mp h3⟩, fun _ => rfl⟩

/-- Shifting a bit in doubles the frame's value and adds the bit, dropping the bit that leaves (R24). -/
theorem shiftIn_toNat (f : Frame) (b : Bool) : (shiftIn f b).toNat = (2 * f.toNat + b.toNat) % 2 ^ 40 := by
  have hb : b.toNat < 2 ^ 1 := by cases b <;> decide
  have h : (shiftIn f b).toNat = (f.toNat % 2 ^ 39) <<< 1 ||| b.toNat := by
    exact (BitVec.toNat_append (f.extractLsb' 0 39) (BitVec.ofBool b)).trans (by simp)
  rw [h, Nat.shiftLeft_eq, Nat.mul_comm, ← Nat.two_pow_add_eq_or_of_lt hb]
  omega

end Sys2Proof.Machine
end

