-- ==== Sys2Proof/Laws/Cycle.lean ====
section
/-! SUPPORT. What one clock cycle can do, said once: the bus transaction, the FSM operation, the clock edge, and the step made of them. -/

namespace Sys2Proof.Machine

/-- The state of a cycle after its transaction and before its FSM operation: the ports, `start_req` (R76) and `bus_rdata` (R65). -/
def State.afterBus (s : State) : State :=
  { s.sample with startReq := s.nextInput.isStart, busRdata := s.busReadValue s.nextInput }

section AfterBus
variable (s : State)

@[simp] theorem State.afterBus_state : s.afterBus.state = s.state := rfl
@[simp] theorem State.afterBus_bitcnt : s.afterBus.bitcnt = s.bitcnt := rfl
@[simp] theorem State.afterBus_sync1 : s.afterBus.sync1 = s.sync1 := rfl
@[simp] theorem State.afterBus_lineS : s.afterBus.lineS = s.lineS := rfl
@[simp] theorem State.afterBus_tcnt : s.afterBus.tcnt = s.tcnt := rfl
@[simp] theorem State.afterBus_shreg : s.afterBus.shreg = s.shreg := rfl
@[simp] theorem State.afterBus_busy : s.afterBus.busy = s.busy := rfl
@[simp] theorem State.afterBus_done : s.afterBus.done = s.done := rfl
@[simp] theorem State.afterBus_valid : s.afterBus.valid = s.valid := rfl
@[simp] theorem State.afterBus_err : s.afterBus.err = s.err := rfl
@[simp] theorem State.afterBus_hum : s.afterBus.hum = s.hum := rfl
@[simp] theorem State.afterBus_temp : s.afterBus.temp = s.temp := rfl
@[simp] theorem State.afterBus_raw0 : s.afterBus.raw0 = s.raw0 := rfl
@[simp] theorem State.afterBus_raw1 : s.afterBus.raw1 = s.raw1 := rfl
@[simp] theorem State.afterBus_pins : s.afterBus.pins = s.sample.pins := rfl
@[simp] theorem State.afterBus_startReq : s.afterBus.startReq = s.nextInput.isStart := rfl
@[simp] theorem State.afterBus_driveLowO : s.afterBus.driveLowO = s.driveLow s.nextInput.rst := rfl
@[simp] theorem State.afterBus_busRdata : s.afterBus.busRdata = s.busReadValue s.nextInput := rfl
@[simp] theorem State.afterBus_inputs : s.afterBus.inputs = s.inputs.tail := rfl
@[simp] theorem State.afterBus_cycle : s.afterBus.cycle = s.cycle + 1 := rfl
@[simp] theorem State.afterBus_params : s.afterBus.params = s.params := rfl
@[simp] theorem State.afterBus_platform : s.afterBus.platform = s.platform := rfl

end AfterBus

/-- The sampled cycle answers a read with the registers at the start of the cycle (R46, R65). -/
@[simp] theorem State.readReg_sample (s : State) (r : Reg) : s.sample.readReg r = s.readReg r := by
  cases r <;> rfl

/-- The eight register word indices (R44). -/
theorem idx_cases : ∀ i : BitVec 3,
    i = 0#3 ∨ i = 1#3 ∨ i = 2#3 ∨ i = 3#3 ∨ i = 4#3 ∨ i = 5#3 ∨ i = 6#3 ∨ i = 7#3 := by decide

/-- Every read transaction drives `bus_rdata` with the register of its index (R65, R68 to R75), but for STATUS with ERR = 3
(assumption log 11). -/
theorem exec_read (idx : BitVec 3) (d : Word) (s : State) :
    exec (decodeBus (txnOf false idx) d) s =
      if s.err = errReserved ∧ idx = 1#3 then .fault .reservedErr
      else .next (s.respond (s.readReg (regOf idx))) := by
  rcases idx_cases idx with h | h | h | h | h | h | h | h <;> subst h
  case inr.inl =>
    by_cases he : s.err = errReserved
    · rw [if_pos ⟨he, rfl⟩]; exact if_pos he
    · rw [if_neg (fun h => he h.1)]; exact if_neg he
  all_goals (rw [if_neg (by simp)]; rfl)

/-- Every write transaction is the host write of its register (R66, R76 to R83). -/
theorem exec_write (idx : BitVec 3) (d : Word) (s : State) :
    exec (decodeBus (txnOf true idx) d) s = .next (s.writeReg (regOf idx) d) := by
  rcases idx_cases idx with h | h | h | h | h | h | h | h <;> subst h <;> rfl

/-- A host write gives `start_req` exactly for CTRL (R66, R76). -/
theorem writeReg_eq (idx : BitVec 3) (d : Word) (s : State) (h : s.startReq = false) :
    s.writeReg (regOf idx) d = { s with startReq := idx == 0#3 && startBit d && !s.pins.rst } := by
  cases s
  subst h
  rcases idx_cases idx with hi | hi | hi | hi | hi | hi | hi | hi <;> subst hi <;> simp [regOf, State.writeReg]

@[simp] theorem State.readReg_present (s : State) (i : Input) (r : Reg) : (s.present i).readReg r = s.readReg r := by
  cases r <;> rfl

@[simp] theorem State.busReadValue_present (s : State) (i j : Input) :
    (s.present i).busReadValue j = s.busReadValue j := by
  simp [State.busReadValue]

/-- The bus phase of a sampled cycle faults exactly where STATUS is read with ERR = 3 (assumption log 11); else it
sets `start_req` (R76) and `bus_rdata` (R65) and nothing more. -/
theorem busPhase_sample (s : State) :
    busPhase s.sample =
      if s.err = errReserved ∧ s.nextInput.readsStatus = true then .fault .reservedErr else .next s.afterBus := by
  rcases hin : s.nextInput with ⟨rst, line, sel, we, idx, d⟩
  have hp : s.sample.pins = ⟨rst, padLevel (s.driveLow rst) line, sel, we, idx, d⟩ := by
    simp only [State.sample, hin]
  unfold busPhase Input.transaction
  rw [hp]
  cases sel with
  | false => simp [Input.readsStatus, State.afterBus, hin, Input.isStart, State.busReadValue, State.sample]
  | true =>
    cases we with
    | false =>
      simp only [if_true]
      rw [exec_read]
      simp [Input.readsStatus, State.afterBus, hin, Input.isStart, State.busReadValue, State.respond]
    | true =>
      simp only [if_true]
      rw [exec_write, writeReg_eq _ _ _ rfl]
      simp [Input.readsStatus, State.afterBus, hin, Input.isStart, State.busReadValue, hp]

/-- What a step of an accepted configuration is (R12). -/
theorem step_accepted (s : State) (ha : s.Accepted) :
    step s = if s.err = errReserved ∧ s.nextInput.readsStatus = true then .fault .reservedErr
      else fsmPhase s.afterBus := by
  have hr : s.refusal = none := s.refusal_eq_none_iff.mpr ha
  unfold step runCycle
  rw [hr, busPhase_sample]
  by_cases h : s.err = errReserved ∧ s.nextInput.readsStatus = true
  · rw [if_pos h, if_pos h]
  · rw [if_neg h, if_neg h]

/-- A configuration that is not accepted is refused. -/
theorem step_not_accepted (s : State) (ha : ¬ s.Accepted) : ∃ r, step s = .refused r := by
  unfold step
  cases h : s.refusal with
  | none => exact absurd (s.refusal_eq_none_iff.mp h) ha
  | some r => exact ⟨r, rfl⟩

/-- An accepted configuration with ERR not 3 runs the FSM phase after its transaction. -/
theorem step_eq (s : State) (ha : s.Accepted) (he : s.err ≠ errReserved) : step s = fsmPhase s.afterBus := by
  rw [step_accepted s ha, if_neg (fun h => he h.1)]

/-- A step that answers a next state ran an accepted configuration, and its FSM phase answered that state. -/
theorem step_next {s t : State} (h : step s = .next t) : s.Accepted ∧ fsmPhase s.afterBus = .next t := by
  unfold step at h
  split at h
  · cases h
  · next hr =>
    refine ⟨s.refusal_eq_none_iff.mp hr, ?_⟩
    unfold runCycle at h
    rw [busPhase_sample] at h
    split at h
    · next heq => split at heq <;> cases heq; exact h
    · cases h
    · cases h

/-- Everything the FSM phase can do: reset (R134), or an operation and the clock edge (R12, R21). -/
theorem fsmPhase_next {u t : State} (h : fsmPhase u = .next t) :
    (u.pins.rst = true ∧ t = u.applyReset) ∨
    (u.pins.rst = false ∧ ∃ v, exec (decodeFsm u.state) u = .next v ∧ t = v.shiftSync) := by
  unfold fsmPhase State.operation at h
  cases hr : u.pins.rst with
  | true => rw [hr, if_pos rfl] at h; cases h; exact .inl ⟨rfl, rfl⟩
  | false =>
    rw [hr, if_neg (by decide)] at h
    split at h
    · next v hv => cases h; exact .inr ⟨rfl, v, hv, rfl⟩
    · cases h
    · cases h

/-- Everything an FSM operation can do when it answers a next state (R86 to R104). -/
theorem exec_fsm_next {c : Code} {u v : State} (h : exec (decodeFsm c) u = .next v) :
    (c = 0#4 ∧ v = if u.startReq then u.acceptStart else u) ∨
    (c = 1#4 ∧ v = if u.params.tStartCyc ≤ u.tcnt then u.goto codeRelease 1 else u.tick) ∨
    (c = 2#4 ∧ v = u.waitFor u.lineS u.params.tHsCyc codeResp (u.tcnt + 1)) ∨
    (c = 3#4 ∧ v = u.waitFor (!u.lineS) u.params.tHsCyc codeAckLow (u.tcnt + 1)) ∨
    (c = 4#4 ∧ v = u.waitFor u.lineS u.params.tHsCyc codeAckHigh (u.tcnt + 1)) ∨
    (c = 5#4 ∧ v = u.waitFor (!u.lineS) u.params.tHsCyc codeBitLow 1) ∨
    (c = 6#4 ∧ v = u.waitFor u.lineS u.params.tBlCyc codeBitHigh 1) ∨
    (c = 7#4 ∧ ((u.lineS = true ∧ u.params.tBhCyc ≤ u.tcnt ∧ v = u.complete errTimeout) ∨
      (u.lineS = true ∧ u.tcnt < u.params.tBhCyc ∧ v = u.tick) ∨
      (u.lineS = false ∧ u.bitcnt.toNat + 1 = Config.nBits ∧
        v = (u.shiftBit (decideBit u.params u.tcnt)).goto codeCheck 0) ∨
      (u.lineS = false ∧ u.bitcnt.toNat + 1 ≠ Config.nBits ∧
        v = (u.shiftBit (decideBit u.params u.tcnt)).goto codeBitLow 1))) ∨
    (c = 8#4 ∧ v = if frameOk u.shreg then u.postResult.complete errNone else u.complete errChecksum) := by
  rcases decodeFsm_cases c with ⟨hc, hd⟩ | ⟨hc, hd⟩ | ⟨hc, hd⟩ | ⟨hc, hd⟩ | ⟨hc, hd⟩ | ⟨hc, hd⟩ | ⟨hc, hd⟩ |
    ⟨hc, hd⟩ | ⟨hc, hd⟩ | ⟨_, hd | ⟨l, hd⟩ | ⟨l, hd⟩⟩ <;> rw [hd] at h
  case inr.inr.inr.inr.inr.inr.inr.inl =>
    refine .inr (.inr (.inr (.inr (.inr (.inr (.inr (.inl ⟨hc, ?_⟩)))))))
    cases h
    cases hl : u.lineS with
    | true =>
      by_cases ht : u.params.tBhCyc ≤ u.tcnt
      · exact .inl ⟨rfl, ht, by simp [ht]⟩
      · exact .inr (.inl ⟨rfl, by omega, by simp [ht]⟩)
    | false =>
      by_cases hb : u.bitcnt.toNat + 1 = Config.nBits
      · exact .inr (.inr (.inl ⟨rfl, hb, by simp [hb]⟩))
      · exact .inr (.inr (.inr ⟨rfl, hb, by simp [hb]⟩))
  all_goals cases h
  all_goals simp [hc]

end Sys2Proof.Machine
end

