-- ==== Sys2Proof/Laws/PerInstr.lean ====
section
/-! SUPPORT. Family EncodesWellFormed: the table word of every instruction is well-formed (assumption log 1), one lemma per constructor of Instr. -/

namespace Sys2Proof.Laws.EncodesWellFormed

/-- The word the encoder gives has zero padding, and an operand only on a bus write. -/
def Statement (i : Instr) : Prop := TableWordWf (encode i) = true

/-- A bus instruction with the write bit set may carry any operand (R53). -/
theorem of_write (i : Instr) (hf : (i.format == .fsm) = false) (hc : i.code.getLsbD 3 = true) : Statement i := by
  unfold Statement encode TableWordWf wordOperandAllowed
  rw [wordPadding_fields, wordIsFsm_fields, wordCode_fields, hf, hc]
  rfl

theorem rdCtrl : Statement .rdCtrl := rfl
theorem rdStatus : Statement .rdStatus := rfl
theorem rdReading : Statement .rdReading := rfl
theorem rdRaw0 : Statement .rdRaw0 := rfl
theorem rdRaw1 : Statement .rdRaw1 := rfl
theorem rdRsvd5 : Statement .rdRsvd5 := rfl
theorem rdRsvd6 : Statement .rdRsvd6 := rfl
theorem rdRsvd7 : Statement .rdRsvd7 := rfl
theorem wrCtrl (d : Word) : Statement (.wrCtrl d) := of_write _ rfl (by simp [Instr.code])
theorem wrStatus (d : Word) : Statement (.wrStatus d) := of_write _ rfl (by simp [Instr.code])
theorem wrReading (d : Word) : Statement (.wrReading d) := of_write _ rfl (by simp [Instr.code])
theorem wrRaw0 (d : Word) : Statement (.wrRaw0 d) := of_write _ rfl (by simp [Instr.code])
theorem wrRaw1 (d : Word) : Statement (.wrRaw1 d) := of_write _ rfl (by simp [Instr.code])
theorem wrRsvd5 (d : Word) : Statement (.wrRsvd5 d) := of_write _ rfl (by simp [Instr.code])
theorem wrRsvd6 (d : Word) : Statement (.wrRsvd6 d) := of_write _ rfl (by simp [Instr.code])
theorem wrRsvd7 (d : Word) : Statement (.wrRsvd7 d) := of_write _ rfl (by simp [Instr.code])
theorem idle : Statement .idle := rfl
theorem startLow : Statement .startLow := rfl
theorem release : Statement .release := rfl
theorem resp : Statement .resp := rfl
theorem ackLow : Statement .ackLow := rfl
theorem ackHigh : Statement .ackHigh := rfl
theorem bitLow : Statement .bitLow := rfl
theorem bitHigh : Statement .bitHigh := rfl
theorem check : Statement .check := rfl
theorem fsmUnused9 : Statement .fsmUnused9 := rfl
theorem fsmUnused10To11 : ∀ l : BitVec 1, Statement (.fsmUnused10To11 l) := by unfold Statement; decide
theorem fsmUnused12To15 : ∀ l : BitVec 2, Statement (.fsmUnused12To15 l) := by unfold Statement; decide

end Sys2Proof.Laws.EncodesWellFormed
end

