-- ==== Sys2Proof/Laws/Run.lean ====
section
/-! SUPPORT. Runs of the machine: how `core.run` unrolls, a step outside reset, and the line stream a run consumes. -/

namespace Sys2Proof.Machine

theorem core_run_zero (s : State) : core.run 0 s = .next s := rfl

/-- A run begins with a step. -/
theorem core_run_succ {s t : State} (k : Nat) (h : step s = .next t) : core.run (k + 1) s = core.run k t := by
  have h' : core.step s = .next t := h
  simp only [Host.Core.run, h']

/-- Runs compose. -/
theorem core_run_add {s t : State} (j k : Nat) (h : core.run j s = .next t) : core.run (j + k) s = core.run k t := by
  induction j generalizing s with
  | zero => cases h; simp
  | succ j ih =>
    rw [show j + 1 + k = (j + k) + 1 by omega]
    cases hs : core.step s with
    | next u =>
      rw [core_run_succ _ hs]
      rw [core_run_succ _ hs] at h
      exact ih h
    | fault f => simp only [Host.Core.run, hs] at h; cases h
    | refused r => simp only [Host.Core.run, hs] at h; cases h

/-- Outside reset a step is its FSM operation and the clock edge (R12). -/
theorem step_of_exec {s v : State} (ha : s.Accepted) (hn : s.NoReset) (he : s.err ≠ errReserved)
    (hv : exec (decodeFsm s.state) s.afterBus = .next v) : step s = .next v.shiftSync := by
  rw [step_eq s ha he]
  unfold fsmPhase State.operation
  rw [if_neg (by simp [s.nextInput_no_reset hn])]
  simp [hv]

/-- A step outside START_LOW sees the head of the line stream and leaves its tail (R21). -/
theorem lineStream_tail {s v : State} {x : Bool} {L : List Bool} (h1 : s.state ≠ codeStartLow)
    (hp : x :: L <+: s.lineStream) (e1 : v.sync1 = s.sync1) (e2 : v.pins = s.sample.pins)
    (e3 : v.inputs = s.inputs.tail) : s.lineS = x ∧ L <+: v.shiftSync.lineStream := by
  unfold State.lineStream at *
  rw [List.cons_prefix_cons] at hp
  refine ⟨hp.1.symm, ?_⟩
  have hd : s.driveLow s.nextInput.rst = false := by
    simp only [codeStartLow_eq] at h1
    simp [State.driveLow, h1]
  simp only [State.shiftSync_lineS, State.shiftSync_sync1, State.shiftSync_inputs, e1, e2, e3,
    State.sample_pins_lineI, hd, padLevel_released]
  cases hi : s.inputs with
  | nil =>
    rw [hi] at hp
    exact hp.2.trans (List.cons_prefix_cons.mpr ⟨rfl, List.nil_prefix⟩)
  | cons i r =>
    rw [hi] at hp
    rw [s.nextInput_cons i r hi]
    exact hp.2

/-- The bits of a frame after a bit has entered (R24). -/
theorem shiftIn_getLsbD (f : Frame) (b : Bool) (k : Nat) (hk : k < 40) :
    (shiftIn f b).getLsbD k = if k = 0 then b else f.getLsbD (k - 1) := by
  have h : (shiftIn f b).getLsbD k = (f.extractLsb' 0 39 ++ BitVec.ofBool b).getLsbD k := rfl
  rw [h, BitVec.getLsbD_append]
  by_cases h0 : k = 0
  · subst h0; simp
  · rw [if_neg (by omega), if_neg h0]; simp; omega

/-- A frame is its five bytes in line order (R24). -/
theorem bytes_append (f : Frame) : (byte0 f ++ byte1 f ++ byte2 f ++ byte3 f : Word) ++ byte4 f = f := by
  unfold byte0 byte1 byte2 byte3 byte4
  rw [BitVec.extractLsb'_append_extractLsb'_eq_extractLsb' (by omega),
    BitVec.extractLsb'_append_extractLsb'_eq_extractLsb' (by omega),
    BitVec.extractLsb'_append_extractLsb'_eq_extractLsb' (by omega),
    BitVec.extractLsb'_append_extractLsb'_eq_extractLsb' (by omega)]
  simp

end Sys2Proof.Machine
end

