-- ==== Sys2Proof/Tests/Slice0.lean ====
section
/-! SUPPORT. Tests: the smoke tests of well-formedness, decoding of words written out from spec/30_encoding.md R54 and R56, single steps with the values of spec/95_test_vectors.md, and a witness for every statement that has hypotheses. -/

namespace Sys2Proof.Tests

open Sys2Proof Sys2Proof.Machine

/-! ### Well-formedness refuses -/

/-- R9: `CLK_PER_US >= 1`. -/
theorem test_wf_clock : ¬ { resetParams with clkPerUs := 0 }.Wf := by decide
/-- R9: `T_START_US >= 18000`. -/
theorem test_wf_start : ¬ { resetParams with tStartUs := 17999 }.Wf := by decide
/-- R7: `T_HS_US >= 1`. -/
theorem test_wf_handshake : ¬ { resetParams with tHsUs := 0 }.Wf := by decide
/-- R7: `T_BL_US >= 1`. -/
theorem test_wf_bit_low : ¬ { resetParams with tBlUs := 0 }.Wf := by decide
/-- R9: `T_BH_US > T_TH_US`. -/
theorem test_wf_bit_high : ¬ { resetParams with tBhUs := 50 }.Wf := by decide
/-- R9, R22: 14 bits do not hold 20000. -/
theorem test_wf_counter : ¬ { resetParams with tcntW := 14 }.Wf := by decide
/-- R7: the defaults are accepted. -/
theorem test_wf_reset : resetParams.Wf := by decide
/-- R138: each wrong wiring is refused. -/
theorem test_wf_pad :
    ¬ { resetPlatform with openDrain := false }.PadWired ∧ ¬ { resetPlatform with pullUp := false }.PadWired ∧
    ¬ { resetPlatform with pullDown := true }.PadWired ∧ ¬ { resetPlatform with padInterrupt := true }.PadWired := by
  decide
/-- R145: a second owner is refused. -/
theorem test_wf_owner :
    ¬ { resetPlatform with soleDriver := false }.Exclusive ∧ ¬ { resetPlatform with soleHost := false }.Exclusive := by
  decide
/-- R52 to R55, log 1: ill-formed table words, each rejected by name. -/
theorem test_wf_words :
    decodeWord 0x20#40 = .rejected .paddingNotZero ∧ decodeWord 0x100#40 = .rejected .operandOnRead ∧
    decodeWord 0x110#40 = .rejected .operandOnFsm ∧ decodeBytes [8#8, 1#8] = .rejected .badLength ∧
    TableWordWf 0x20#40 = false ∧ TableWordWf 0x100#40 = false ∧ TableWordWf 0x110#40 = false := by
  decide

/-! ### Words written out bit by bit (R54, R56) -/

/-- R54, reads: bus_we = 0, bus_idx below. -/
theorem test_decode_reads :
    decodeTableWord 8 0b0000_0_000 = some .rdCtrl ∧ decodeTableWord 8 0b0000_0_001 = some .rdStatus ∧
    decodeTableWord 8 0b0000_0_010 = some .rdReading ∧ decodeTableWord 8 0b0000_0_011 = some .rdRaw0 ∧
    decodeTableWord 8 0b0000_0_100 = some .rdRaw1 ∧ decodeTableWord 8 0b0000_0_101 = some .rdRsvd5 ∧
    decodeTableWord 8 0b0000_0_110 = some .rdRsvd6 ∧ decodeTableWord 8 0b0000_0_111 = some .rdRsvd7 := by
  decide

/-- R54, writes: bus_we = 1, bus_idx below, bus_wdata above the first byte. -/
theorem test_decode_writes :
    decodeTableWord 40 0x12345678_08 = some (.wrCtrl 0x12345678#32) ∧
    decodeTableWord 40 0x12345678_09 = some (.wrStatus 0x12345678#32) ∧
    decodeTableWord 40 0x12345678_0A = some (.wrReading 0x12345678#32) ∧
    decodeTableWord 40 0x12345678_0B = some (.wrRaw0 0x12345678#32) ∧
    decodeTableWord 40 0x12345678_0C = some (.wrRaw1 0x12345678#32) ∧
    decodeTableWord 40 0x12345678_0D = some (.wrRsvd5 0x12345678#32) ∧
    decodeTableWord 40 0x12345678_0E = some (.wrRsvd6 0x12345678#32) ∧
    decodeTableWord 40 0x12345678_0F = some (.wrRsvd7 0x12345678#32) := by
  decide

/-- R56, codes 0 to 8 (bit 4 marks the fsm format, log 1). -/
theorem test_decode_fsm :
    decodeTableWord 8 0b0001_0000 = some .idle ∧ decodeTableWord 8 0b0001_0001 = some .startLow ∧
    decodeTableWord 8 0b0001_0010 = some .release ∧ decodeTableWord 8 0b0001_0011 = some .resp ∧
    decodeTableWord 8 0b0001_0100 = some .ackLow ∧ decodeTableWord 8 0b0001_0101 = some .ackHigh ∧
    decodeTableWord 8 0b0001_0110 = some .bitLow ∧ decodeTableWord 8 0b0001_0111 = some .bitHigh ∧
    decodeTableWord 8 0b0001_1000 = some .check := by
  decide

/-- R56, the unused codes 9, 0b101S and 0b11SS. -/
theorem test_decode_unused :
    decodeTableWord 8 0b0001_1001 = some .fsmUnused9 ∧ decodeTableWord 8 0b0001_1010 = some (.fsmUnused10To11 0#1) ∧
    decodeTableWord 8 0b0001_1011 = some (.fsmUnused10To11 1#1) ∧
    decodeTableWord 8 0b0001_1100 = some (.fsmUnused12To15 0#2) ∧
    decodeTableWord 8 0b0001_1111 = some (.fsmUnused12To15 3#2) := by
  decide

/-- The words that do not fit the bits given, or more bits than the longest instruction has, are no instruction. -/
theorem test_decode_bounds : decodeTableWord 8 0x108 = none ∧ decodeTableWord 48 8 = none := by decide

/-! ### Small states -/

/-- What a step leaves, read by `f`; `none` where the step stops. -/
def afterStep {α : Type} (s : State) (f : State → α) : Option α :=
  match step s with
  | .next t => some (f t)
  | .fault _ => none
  | .refused _ => none

/-- The next state of a step, the state itself where the step stops. -/
def stepD (s : State) : State :=
  match step s with
  | .next t => t
  | .fault _ => s
  | .refused _ => s

/-- A cycle in which the host writes. -/
def writing (idx : BitVec 3) (d : Word) : Input :=
  { rst := false, lineI := true, busSel := true, busWe := true, busIdx := idx, busWdata := d }

/-- A cycle in which the host reads. -/
def reading (idx : BitVec 3) : Input :=
  { rst := false, lineI := true, busSel := true, busWe := false, busIdx := idx, busWdata := 0#32 }

/-- The state `Z` of 95_test_vectors.md L2.1 with the inputs of its next cycle. -/
def stateZ (i : Input) : State := State.reset.present i

/-- The state `OK` of L2.1: the end state of program P1 at cycle 23678. -/
def stateOk (i : Input) : State :=
  { State.reset with
    inputs := [i], done := true, valid := true, hum := 0x35#16, temp := 0x1B#16, raw0 := 0x021A0113#32, raw1 := 0x30#8,
    shreg := 0x021A011330#40, bitcnt := 40#6 }

/-- The state `B` of L2.1: START_LOW with `tcnt = 5`. -/
def stateB (i : Input) : State :=
  { State.reset with inputs := [i], state := 1#4, tcnt := 5, busy := true, sync1 := false, lineS := false }

/-- A read in flight in a state code, with a count, a synchronized level, and a quiet next cycle. -/
def busyIn (code : Code) (count : Nat) (level : Bool) : State :=
  { State.reset with inputs := [Input.quiet true], state := code, tcnt := count, busy := true, lineS := level }

/-- CHECK on a frame, with a quiet next cycle. -/
def checking (f : Frame) : State :=
  { busyIn 8#4 0 true with shreg := f, bitcnt := 40#6 }

/-- The host's view of a completed read: STATUS, READING, RAW0, RAW1. -/
def results (s : State) : List Word :=
  [s.readReg .status, s.readReg .reading, s.readReg .raw0, s.readReg .raw1]

/-! ### Host interface (L2.1) -/

/-- Vectors B1, B2. -/
theorem test_rd_reset :
    afterStep (stateZ (reading 0#3)) (·.busRdata) = some 0#32 ∧
    afterStep (stateZ (reading 1#3)) (·.busRdata) = some 0#32 := by decide
/-- Vectors B3, B4. -/
theorem test_rd_status :
    afterStep (stateOk (reading 1#3)) (·.busRdata) = some 6#32 ∧
    afterStep (stateB (reading 1#3)) (·.busRdata) = some 0x101#32 := by decide
/-- Vector B5. -/
theorem test_rd_reading : afterStep (stateOk (reading 2#3)) (·.busRdata) = some 0x001B0035#32 := by decide
/-- Vector B6. -/
theorem test_rd_raw0 : afterStep (stateOk (reading 3#3)) (·.busRdata) = some 0x021A0113#32 := by decide
/-- Vector B7. -/
theorem test_rd_raw1 : afterStep (stateOk (reading 4#3)) (·.busRdata) = some 0x30#32 := by decide
/-- Vector B8. -/
theorem test_rd_rsvd :
    afterStep (stateOk (reading 5#3)) (·.busRdata) = some 0#32 ∧
    afterStep (stateOk (reading 6#3)) (·.busRdata) = some 0#32 ∧
    afterStep (stateOk (reading 7#3)) (·.busRdata) = some 0#32 := by decide
/-- Vectors B9, B13: bits 31:1 do not count. -/
theorem test_wr_ctrl_start :
    afterStep (stateZ (writing 0#3 1#32)) (fun t => (t.state, t.tcnt, t.readReg .status)) = some (1#4, 1, 0x101#32) ∧
    afterStep (stateZ (writing 0#3 3#32)) (fun t => (t.state, t.tcnt, t.readReg .status)) = some (1#4, 1, 0x101#32) := by
  decide
/-- Vector B10: the accepted START clears the results. -/
theorem test_wr_ctrl_clears :
    afterStep (stateOk (writing 0#3 1#32)) results = some [0x101#32, 0#32, 0#32, 0#32] := by decide
/-- Vectors B11, B12, B19: ignored while busy, without bit 0, and with reset. -/
theorem test_wr_ctrl_ignored :
    afterStep (stateB (writing 0#3 1#32)) (fun t => (t.state, t.tcnt)) = some (1#4, 6) ∧
    afterStep (stateZ (writing 0#3 0xFFFFFFFE#32)) (fun t => (t.state, t.tcnt)) = some (0#4, 0) ∧
    afterStep (stateZ { writing 0#3 1#32 with rst := true }) (fun t => (t.state, t.busy, t.startReq)) =
      some (0#4, false, false) := by
  decide
/-- Vectors B14 to B17. -/
theorem test_wr_ignored :
    afterStep (stateOk (writing 1#3 0xFFFFFFFF#32)) results = some [6#32, 0x001B0035#32, 0x021A0113#32, 0x30#32] ∧
    afterStep (stateOk (writing 2#3 0x12345678#32)) results = some [6#32, 0x001B0035#32, 0x021A0113#32, 0x30#32] ∧
    afterStep (stateOk (writing 3#3 1#32)) results = some [6#32, 0x001B0035#32, 0x021A0113#32, 0x30#32] ∧
    afterStep (stateOk (writing 4#3 1#32)) results = some [6#32, 0x001B0035#32, 0x021A0113#32, 0x30#32] := by decide
/-- Vectors B18, B20: no transaction; a read in a reset cycle. -/
theorem test_bus_idle_and_reset :
    afterStep (stateOk { reading 2#3 with busSel := false }) (·.busRdata) = some 0#32 ∧
    afterStep (stateB { reading 1#3 with rst := true }) (fun t => (t.busRdata, t.state, t.driveLowO, t.readReg .status)) =
      some (0x101#32, 0#4, false, 0#32) := by decide

/-! ### Handshake (L2.2) and sampler (L2.3) -/

/-- H1 and H2: `START_LOW` counts to 20000 and the line is driven low meanwhile (R31, R87). -/
theorem test_start_low :
    afterStep (busyIn 1#4 19999 false) (fun t => (t.state, t.tcnt, t.driveLowO, t.sync1)) =
      some (1#4, 20000, true, false) ∧
    afterStep (busyIn 1#4 20000 false) (fun t => (t.state, t.tcnt, t.driveLowO)) = some (2#4, 1, true) := by decide
/-- H1 (RELEASE@20003 sees 1, RESP@20004 has count 4) and H3. -/
theorem test_release :
    afterStep (busyIn 2#4 3 true) (fun t => (t.state, t.tcnt)) = some (3#4, 4) ∧
    afterStep (busyIn 2#4 1100 false) results = some [0xA#32, 0#32, 0#32, 0#32] := by decide
/-- H2 (TIMEOUT at 1100) and H6 (the edge at 1100 beats it). -/
theorem test_resp :
    afterStep (busyIn 3#4 1100 true) (·.readReg .status) = some 0xA#32 ∧
    afterStep (busyIn 3#4 1100 false) (fun t => (t.state, t.tcnt)) = some (4#4, 1101) := by decide
/-- H6 (TIMEOUT past the limit) and H7 (the edge past the limit counts). -/
theorem test_ack_low :
    afterStep (busyIn 4#4 1101 false) (·.readReg .status) = some 0xA#32 ∧
    afterStep (busyIn 4#4 1101 true) (fun t => (t.state, t.tcnt)) = some (5#4, 1102) := by decide
/-- H5 and H9 (count 1103 with the edge). -/
theorem test_ack_high :
    afterStep (busyIn 5#4 1100 true) (·.readReg .status) = some 0xA#32 ∧
    afterStep (busyIn 5#4 1103 false) (fun t => (t.state, t.tcnt)) = some (6#4, 1) := by decide
/-- S3 (a low phase of 200 passes: the edge with count 200) and S4. -/
theorem test_bit_low :
    afterStep (busyIn 6#4 200 true) (fun t => (t.state, t.tcnt)) = some (7#4, 1) ∧
    afterStep (busyIn 6#4 200 false) (·.readReg .status) = some 0xA#32 := by decide
/-- S2 (TIMEOUT at 200, `bitcnt` stays 0) and L1.2 (a high phase of 51 is a 1). -/
theorem test_bit_high :
    afterStep (busyIn 7#4 200 true) (fun t => (t.readReg .status, t.bitcnt)) = some (0xA#32, 0#6) ∧
    afterStep (busyIn 7#4 51 false) (fun t => (t.state, t.shreg, t.bitcnt)) = some (6#4, 1#40, 1#6) := by decide
/-- R98: the 40th bit leads to CHECK; L1.2: a high phase of 50 is a 0. -/
theorem test_bit_high_last :
    afterStep { busyIn 7#4 50 false with bitcnt := 39#6, shreg := 1#40 }
      (fun t => (t.state, t.tcnt, t.shreg, t.bitcnt)) = some (8#4, 0, 2#40, 40#6) := by decide
/-- The table of L2.3, and the row at `CLK_PER_US = 2`. -/
theorem test_decide :
    [1, 26, 49, 50, 51, 70, 199, 200].map (decideBit resetParams) =
      [false, false, false, false, true, true, true, true] ∧
    [100, 101, 52, 140].map (decideBit { resetParams with clkPerUs := 2 }) = [false, true, false, true] := by decide

/-! ### Frame decoder (L2.4) -/

/-- F1 (the source's example) and F2. -/
theorem test_check_example :
    afterStep (checking 0x021A011330#40) results = some [6#32, 0x001B0035#32, 0x021A0113#32, 0x30#32] ∧
    afterStep (checking 0x021A011331#40) results = some [0x12#32, 0#32, 0#32, 0#32] := by decide
/-- F3, F5, F6, F7 and F8: byte 3 counts, the sum wraps, the words are unsigned. -/
theorem test_check_corners :
    afterStep (checking 0x021A01131D#40) results = some [0x12#32, 0#32, 0#32, 0#32] ∧
    afterStep (checking 0xFFFFFFFFFC#40) results = some [6#32, 0x19991999#32, 0xFFFFFFFF#32, 0xFC#32] ∧
    afterStep (checking 0xFFFFFFFF03#40) results = some [0x12#32, 0#32, 0#32, 0#32] ∧
    afterStep (checking 0x8080808000#40) results = some [6#32, 0x0CD90CD9#32, 0x80808080#32, 0#32] ∧
    afterStep (checking 0x0190806576#40) results = some [6#32, 0x0CD60028#32, 0x01908065#32, 0x76#32] := by decide
/-- X3: a START in the CHECK cycle is ignored. -/
theorem test_start_in_check :
    afterStep { checking 0x021A011330#40 with inputs := [writing 0#3 1#32] } (·.readReg .status) = some 6#32 := by decide
/-- R113: the unused codes fault. -/
theorem test_unused_codes :
    step (busyIn 9#4 0 true) = .fault (.unreachableState 9#4) ∧
    step (busyIn 11#4 0 true) = .fault (.unreachableState 11#4) ∧
    step (busyIn 14#4 0 true) = .fault (.unreachableState 14#4) := ⟨rfl, rfl, rfl⟩

/-! ### Placing an instruction -/

/-- The word of `wr CTRL, 1` placed after reset runs as the START of P1. -/
theorem test_place_start :
    afterStep (State.reset.withFetchWord 40 0x00000001_08) (fun t => (t.state, t.readReg .status)) =
      some (1#4, 0x101#32) := by decide
/-- The word of RELEASE placed after reset runs RELEASE: `line_s` is 1 at reset, so it moves on to RESP. -/
theorem test_place_release :
    afterStep (State.reset.withFetchWord 8 0b0001_0010) (fun t => (t.state, t.tcnt)) = some (3#4, 1) := by decide
/-- One line of P1 through the host assembly: `start`, then `rd STATUS` reads 0x00000101. -/
theorem test_host_program :
    (match runProgram [Asm.start, .rd .status] { State.reset with inputs := [Input.quiet true, Input.quiet true] } with
      | .next t => some t.busRdata
      | .fault _ => none
      | .refused _ => none) = some 0x101#32 := by decide
/-- L1.1 seen by `read`: the result of STATUS 0x6 and READING 0x001B0035; P2 and P3. -/
theorem test_read_result :
    readResult 6#32 0x001B0035#32 = some (.ok 53#16 27#16) ∧ readResult 0xA#32 0#32 = some .timeout ∧
    readResult 0x12#32 0#32 = some .checksumFailed := by decide

/-! ### Witnesses: each statement's hypotheses are met -/

/-- A state that sees the given levels on `line_s`, the first two from its synchronizer. -/
def lined (b : State) (l0 l1 : Bool) (rest : List Bool) : State :=
  { b with lineS := l0, sync1 := l1, inputs := rest.map Input.quiet }

theorem lined_noReset (b : State) (l0 l1 : Bool) (rest : List Bool) : (lined b l0 l1 rest).NoReset := by
  intro i hi
  obtain ⟨l, _, rfl⟩ := List.mem_map.mp hi
  rfl

theorem lined_stream (b : State) (l0 l1 : Bool) (rest : List Bool) :
    (lined b l0 l1 rest).lineStream = l0 :: l1 :: rest := by
  simp [lined, State.lineStream, Function.comp_def, Input.quiet]

/-- The reset state with other parameters. -/
def withParams (p : Params) : State := { State.reset with params := p }

/-- The reset state on another platform. -/
def onPlatform (q : Platform) : State := { State.reset with platform := q }

theorem witness_DecodedWordIsItsEncoding : decodeWord 0x12345678_0F#40 = .ok (.wrRsvd7 0x12345678#32) := by decide

/-- One witness per clause: no transaction, a transaction, an operation, a reset. -/
theorem witness_StepRunsTheDecodedInstructions :
    ((stateZ (Input.quiet true)).Accepted ∧ (stateZ (Input.quiet true)).nextInput.busSel = false) ∧
    ((stateB (reading 7#3)).Accepted ∧ (stateB (reading 7#3)).nextInput.busSel = true ∧
      decodeBus (txnOf false 7#3) 0#32 = .rdRsvd7) ∧
    ((checking 0#40).pins.rst = false ∧ decodeFsm (checking 0#40).state = .check) ∧
    ({ State.reset with pins := { Input.quiet true with rst := true } } : State).pins.rst = true := by
  decide

theorem witness_CycleBeginsWithItsInputs : (stateB (reading 1#3)).inputs = reading 1#3 :: [] := rfl

/-- Each of the four conditions of R9 at its boundary; the counter bound by each of its four windows. -/
theorem witness_BrokenConfigurationIsRefused :
    (withParams { resetParams with clkPerUs := 0 }).params.clkPerUs < 1 ∧
    (withParams { resetParams with tStartUs := 17999 }).params.tStartUs < 18000 ∧
    (withParams { resetParams with tBhUs := 50 }).params.tBhUs ≤ 50 ∧
    (∀ p ∈ [{ resetParams with tStartUs := 32768 }, { resetParams with tHsUs := 32764 },
        { resetParams with tBlUs := 32768 }, { resetParams with tBhUs := 32768 }],
      2 ^ p.tcntW ≤ max (max (p.tStartUs * p.clkPerUs) (p.tHsUs * p.clkPerUs + 4))
        (max (p.tBlUs * p.clkPerUs) (p.tBhUs * p.clkPerUs))) := by
  decide

theorem witness_BrokenPlatformIsRefused :
    (onPlatform { resetPlatform with pullDown := true }).params.Wf ∧
    (onPlatform { resetPlatform with pullDown := true }).platform.pullDown = true ∧
    (onPlatform { resetPlatform with openDrain := false }).platform.openDrain = false ∧
    (onPlatform { resetPlatform with pullUp := false }).platform.pullUp = false ∧
    (onPlatform { resetPlatform with padInterrupt := true }).platform.padInterrupt = true ∧
    (onPlatform { resetPlatform with soleDriver := false }).platform.PadWired ∧
    (onPlatform { resetPlatform with soleDriver := false }).platform.soleDriver = false ∧
    (onPlatform { resetPlatform with soleHost := false }).platform.PadWired ∧
    (onPlatform { resetPlatform with soleHost := false }).platform.soleHost = false := by
  decide

/-- The greatest code below the reserved one, and the reserved one. -/
theorem witness_StatusReadGivesTheStatusWord : ({ State.reset with err := 2#2 } : State).err ≠ 3#2 := by decide
theorem witness_StatusReadOfReservedErrFaults : ({ State.reset with err := 3#2 } : State).err = 3#2 := rfl

/-- A read and a write. -/
theorem witness_BusTransactionsKeepTheState :
    (Instr.format .rdStatus = .bus ∧ ∃ t, exec .rdStatus State.reset = .next t) ∧
    (Instr.format (.wrRaw0 5#32) = .bus ∧ ∃ t, exec (.wrRaw0 5#32) State.reset = .next t) :=
  ⟨⟨rfl, _, rfl⟩, rfl, _, rfl⟩

/-- Both levels of the clauses on `line_s`. -/
theorem witness_BitHighOperation : (busyIn 7#4 51 false).lineS = false ∧ (busyIn 7#4 200 true).lineS = true := ⟨rfl, rfl⟩

/-- A frame that passes by the wrap of the sum, and one that fails by one. -/
theorem witness_CheckOperation :
    ((checking 0x8080808000#40).shreg = 0x80#8 ++ 0x80#8 ++ 0x80#8 ++ 0x80#8 ++ 0x00#8 ∧
      ((0x80#8).toNat + (0x80#8).toNat + (0x80#8).toNat + (0x80#8).toNat) % 256 = (0x00#8).toNat) ∧
    ((checking 0x021A011331#40).shreg = 0x02#8 ++ 0x1A#8 ++ 0x01#8 ++ 0x13#8 ++ 0x31#8 ∧
      ((0x02#8).toNat + (0x1A#8).toNat + (0x01#8).toNat + (0x13#8).toNat) % 256 ≠ (0x31#8).toNat) := by
  decide

/-- The least and the greatest unused code; the greatest used code with a next state. -/
theorem witness_UnusedCodesFaultAndAreNeverEntered :
    (∀ c ∈ [9#4, 15#4], (busyIn c 0 true).Accepted ∧ (busyIn c 0 true).err ≠ 3#2 ∧
      (busyIn c 0 true).nextInput.rst = false ∧ 9 ≤ (busyIn c 0 true).state.toNat) ∧
    (checking 0#40).state.toNat ≤ 8 ∧ step (checking 0#40) = .next (stepD (checking 0#40)) :=
  ⟨by decide, by decide, rfl⟩

/-- An operation that answers a next state, for each premise of the clauses. -/
theorem witness_FsmOperationsFrame :
    (Instr.format .idle = .fsm ∧ exec .idle State.reset = .next State.reset ∧ State.reset.startReq = false) ∧
    (Instr.format .bitHigh = .fsm ∧ (busyIn 7#4 3 true).lineS = true ∧
      ∃ t, exec .bitHigh (busyIn 7#4 3 true) = .next t ∧ t.state ≠ 0#4) ∧
    (Instr.format .check = .fsm ∧ frameOk (checking 1#40).shreg = false ∧
      ∃ t, exec .check (checking 1#40) = .next t) :=
  ⟨⟨rfl, rfl, rfl⟩, ⟨rfl, rfl, (busyIn 7#4 3 true).tick, rfl, by decide⟩, rfl, rfl, _, rfl⟩

/-- `CLK_PER_US = 1`, where the boundary vectors stand. -/
theorem witness_BitDecisionIsStrict : resetParams.clkPerUs = 1 := rfl

/-- A frame with a wrong byte 4. -/
theorem witness_ChecksumIsTheSumOfFourBytesMod256 :
    checksumOk (byte0 0x021A011331#40) (byte1 0x021A011331#40) (byte2 0x021A011331#40) (byte3 0x021A011331#40)
      (byte4 0x021A011331#40) = false := by decide

/-- The edge at the limit, the limit without the edge, and one cycle below the limit. -/
theorem witness_AwaitedEdgeBeatsTheTimeout :
    ((busyIn 3#4 1100 false).lineS == false) = true ∧
    (((busyIn 3#4 1100 true).lineS == false) = false ∧ 1100 ≤ (busyIn 3#4 1100 true).tcnt) ∧
    (((busyIn 3#4 1099 true).lineS == false) = false ∧ (busyIn 3#4 1099 true).tcnt < 1100) := by
  decide

/-- The line driven, the line released, and released by `rst` in START_LOW. -/
theorem witness_LineIsDrivenOnlyInStartLow :
    (step (busyIn 1#4 5 false) = .next (stepD (busyIn 1#4 5 false)) ∧ (stepD (busyIn 1#4 5 false)).driveLowO = true) ∧
    (step (busyIn 2#4 5 false) = .next (stepD (busyIn 2#4 5 false)) ∧ (stepD (busyIn 2#4 5 false)).driveLowO = false) ∧
    (step (stateB { reading 1#3 with rst := true }) = .next (stepD (stateB { reading 1#3 with rst := true })) ∧
      (stepD (stateB { reading 1#3 with rst := true })).driveLowO = false) :=
  ⟨⟨rfl, rfl⟩, ⟨rfl, rfl⟩, rfl, rfl⟩

/-- Two steps without reset, the second stage showing the level of the first step's line; a reset step; a presented input. -/
theorem witness_SynchronizerDelaysTheLineByTwoCycles :
    (step { stateZ (Input.quiet false) with inputs := [Input.quiet false, Input.quiet true] } =
        .next (stepD { stateZ (Input.quiet false) with inputs := [Input.quiet false, Input.quiet true] }) ∧
      (stepD { stateZ (Input.quiet false) with inputs := [Input.quiet false, Input.quiet true] }).pins.rst = false ∧
      step (stepD { stateZ (Input.quiet false) with inputs := [Input.quiet false, Input.quiet true] }) =
        .next (stepD (stepD { stateZ (Input.quiet false) with inputs := [Input.quiet false, Input.quiet true] })) ∧
      (stepD (stepD { stateZ (Input.quiet false) with inputs := [Input.quiet false, Input.quiet true] })).pins.rst =
        false) ∧
    (step (stateB { reading 1#3 with rst := true }) = .next (stepD (stateB { reading 1#3 with rst := true })) ∧
      (stepD (stateB { reading 1#3 with rst := true })).pins.rst = true) ∧
    step ((busyIn 3#4 7 true).present (reading 1#3)) = .next (stepD ((busyIn 3#4 7 true).present (reading 1#3))) :=
  ⟨⟨rfl, rfl, rfl, rfl⟩, ⟨rfl, rfl⟩, rfl⟩

/-- A reset in flight with a read of STATUS, and with the reserved ERR and no read of STATUS. -/
theorem witness_ResetCycleLeavesTheResetState :
    ((stateB { reading 1#3 with rst := true }).Accepted ∧ (stateB { reading 1#3 with rst := true }).nextInput.rst = true ∧
      (stateB { reading 1#3 with rst := true }).err ≠ 3#2) ∧
    (({ stateB { reading 2#3 with rst := true } with err := 3#2 } : State).nextInput.rst = true ∧
      ({ stateB { reading 2#3 with rst := true } with err := 3#2 } : State).nextInput.readsStatus = false) := by
  decide

theorem witness_StartIsAcceptedInIdle :
    (stateOk (writing 0#3 1#32)).Accepted ∧ (stateOk (writing 0#3 1#32)).state = 0#4 ∧
    (stateOk (writing 0#3 1#32)).nextInput.isStart = true := by decide

theorem witness_StartIsIgnoredWhileBusy :
    (writing 0#3 1#32).isStart = true ∧ (checking 0#40).state ≠ 0#4 ∧
    step ((checking 0#40).present (writing 0#3 1#32)) = .next (stepD ((checking 0#40).present (writing 0#3 1#32))) :=
  ⟨by decide, by decide, rfl⟩

/-- A write without bit 0, a write to another register and a read. -/
theorem witness_OnlyStartHasAnEffect :
    ∀ i ∈ [writing 0#3 0xFFFFFFFE#32, writing 1#3 1#32, reading 1#3],
      i.isStart = false ∧ ∃ t, step ((checking 0#40).present i) = .next t := by
  simp only [List.forall_mem_cons]
  exact ⟨⟨by decide, _, rfl⟩, ⟨by decide, _, rfl⟩, ⟨by decide, _, rfl⟩, by simp⟩

theorem witness_IdleIgnoresTheLine :
    (stateOk (reading 1#3)).Accepted ∧ (stateOk (reading 1#3)).state = 0#4 ∧ (stateOk (reading 1#3)).err ≠ 3#2 ∧
    (Input.quiet false).isStart = false ∧ (Input.quiet false).rst = false := by decide

/-- The least and the greatest used code. -/
theorem witness_HostReadSeesTheStartOfTheCycle :
    ((stateOk (Input.quiet true)).Accepted ∧ (stateOk (Input.quiet true)).state.toNat ≤ 8 ∧
      (stateOk (Input.quiet true)).err ≠ 3#2) ∧
    ((checking 0#40).Accepted ∧ (checking 0#40).state.toNat ≤ 8 ∧ (checking 0#40).err ≠ 3#2) := by decide

/-- The end state of P1 meets the invariant. -/
theorem stateOk_inv : (stateOk (reading 1#3)).Inv :=
  ⟨by decide, by decide, by decide, by decide, by decide, by decide⟩

/-- The end state of P2 (TIMEOUT). -/
def stateTimeout : State := { State.reset with inputs := [Input.quiet true], done := true, err := 1#2 }

/-- The end state of P3 (CHECKSUM_FAILED). -/
def stateBadSum : State :=
  { State.reset with inputs := [Input.quiet true], done := true, err := 2#2, shreg := 0x021A011331#40, bitcnt := 40#6 }

theorem stateTimeout_inv : stateTimeout.Inv := ⟨by decide, by decide, by decide, by decide, by decide, by decide⟩
theorem stateBadSum_inv : stateBadSum.Inv := ⟨by decide, by decide, by decide, by decide, by decide, by decide⟩

/-- CHECK states that meet the invariant: on a frame that passes, and on one that fails. -/
theorem checking_good_inv : (checking 0x021A011330#40).Inv :=
  ⟨by decide, by decide, by decide, by decide, by decide, by decide⟩
theorem checking_bad_inv : (checking 0x021A011331#40).Inv :=
  ⟨by decide, by decide, by decide, by decide, by decide, by decide⟩

theorem witness_ResultLastsUntilTheNextStart :
    (stateOk (reading 1#3)).Inv ∧ (stateOk (reading 1#3)).done = true ∧ (stateOk (reading 1#3)).nextInput.rst = false ∧
    (stateOk (reading 1#3)).nextInput.isStart = false ∧
    step (stateOk (reading 1#3)) = .next (stepD (stateOk (reading 1#3))) :=
  ⟨stateOk_inv, rfl, rfl, rfl, rfl⟩

/-- One witness per outcome. -/
theorem witness_ReadContractDecodesTheOutcome :
    ((stateOk (reading 1#3)).Inv ∧ (stateOk (reading 1#3)).done = true ∧ (stateOk (reading 1#3)).err = 0#2) ∧
    (stateTimeout.Inv ∧ stateTimeout.done = true ∧ stateTimeout.err = 1#2) ∧
    (stateBadSum.Inv ∧ stateBadSum.done = true ∧ stateBadSum.err = 2#2) :=
  ⟨⟨stateOk_inv, rfl, rfl⟩, ⟨stateTimeout_inv, rfl, rfl⟩, stateBadSum_inv, rfl, rfl⟩

/-- A completed read, and a read in its last busy state. -/
theorem witness_StatusShowsOnlyLegalValues : (stateOk (reading 1#3)).Inv ∧ (checking 0x021A011330#40).Inv :=
  ⟨stateOk_inv, checking_good_inv⟩

/-- A move of every state: each meets the step and the no-reset premise. -/
theorem witness_StateMovesOnlyAlongThePath :
    (step (stateZ (writing 0#3 1#32)) = .next (stepD (stateZ (writing 0#3 1#32))) ∧
      (stepD (stateZ (writing 0#3 1#32))).pins.rst = false) ∧
    (step (busyIn 1#4 20000 false) = .next (stepD (busyIn 1#4 20000 false)) ∧
      (stepD (busyIn 1#4 20000 false)).pins.rst = false) ∧
    (step (busyIn 7#4 200 true) = .next (stepD (busyIn 7#4 200 true)) ∧ (stepD (busyIn 7#4 200 true)).pins.rst = false) ∧
    (step (checking 0#40) = .next (stepD (checking 0#40)) ∧ (stepD (checking 0#40)).pins.rst = false) :=
  ⟨⟨rfl, rfl⟩, ⟨rfl, rfl⟩, ⟨rfl, rfl⟩, rfl, rfl⟩

/-- One witness per alternative: unchanged, cleared by a START, posted by CHECK. -/
theorem witness_ResultsChangeOnlyByStartOrCheck :
    (step (stateOk (reading 1#3)) = .next (stepD (stateOk (reading 1#3))) ∧
      (stepD (stateOk (reading 1#3))).pins.rst = false) ∧
    (step (stateOk (writing 0#3 1#32)) = .next (stepD (stateOk (writing 0#3 1#32))) ∧
      (stepD (stateOk (writing 0#3 1#32))).pins.rst = false) ∧
    (step (checking 0x021A011330#40) = .next (stepD (checking 0x021A011330#40)) ∧
      (stepD (checking 0x021A011330#40)).pins.rst = false) :=
  ⟨⟨rfl, rfl⟩, ⟨rfl, rfl⟩, rfl, rfl⟩

/-- The six waits at their limits with a TIMEOUT, and one edge at the limit without. -/
theorem witness_TimeoutIsRaisedExactlyByTheWaits :
    (∀ s ∈ [busyIn 2#4 1100 false, busyIn 3#4 1100 true, busyIn 4#4 1100 false, busyIn 5#4 1100 true,
        busyIn 6#4 200 false, busyIn 7#4 200 true],
      afterStep s (fun t => (t.pins.rst, t.err)) = some (false, 1#2) ∧ s.err = 0#2) ∧
    afterStep (busyIn 3#4 1100 false) (fun t => (t.pins.rst, t.err)) = some (false, 0#2) := by
  decide

theorem witness_ChecksumFailureIsRaisedOnlyByCheck :
    (checking 0x021A011331#40).Inv ∧
    step (checking 0x021A011331#40) = .next (stepD (checking 0x021A011331#40)) ∧
    (stepD (checking 0x021A011331#40)).pins.rst = false ∧ (checking 0x021A011331#40).err ≠ 2#2 ∧
    (stepD (checking 0x021A011331#40)).err = 2#2 :=
  ⟨checking_bad_inv, rfl, rfl, by decide, by decide⟩

/-- A success and a failure. -/
theorem witness_ReadingIsEmittedIffTheChecksumHolds :
    ((checking 0x021A011330#40).Inv ∧ (checking 0x021A011330#40).state ≠ 0#4 ∧
      step (checking 0x021A011330#40) = .next (stepD (checking 0x021A011330#40)) ∧
      (stepD (checking 0x021A011330#40)).pins.rst = false ∧ (stepD (checking 0x021A011330#40)).state = 0#4 ∧
      (stepD (checking 0x021A011330#40)).valid = true) ∧
    ((checking 0x021A011331#40).Inv ∧ (checking 0x021A011331#40).state ≠ 0#4 ∧
      step (checking 0x021A011331#40) = .next (stepD (checking 0x021A011331#40)) ∧
      (stepD (checking 0x021A011331#40)).pins.rst = false ∧ (stepD (checking 0x021A011331#40)).state = 0#4 ∧
      (stepD (checking 0x021A011331#40)).valid = false) :=
  ⟨⟨checking_good_inv, by decide, rfl, rfl, by decide, by decide⟩, checking_bad_inv, by decide, rfl, rfl, by decide, by decide⟩

theorem witness_ParametersNeverChange : step (checking 0#40) = .next (stepD (checking 0#40)) := rfl

theorem witness_InterReadIntervalIsNotEnforced :
    step (stateOk (writing 0#3 1#32)) = .next (stepD (stateOk (writing 0#3 1#32))) := rfl

theorem witness_EveryStepKeepsTheInvariant :
    (checking 0x021A011330#40).Inv ∧ step (checking 0x021A011330#40) = .next (stepD (checking 0x021A011330#40)) :=
  ⟨checking_good_inv, rfl⟩

theorem witness_EveryStepKeepsTheSynchronizerInvariant :
    ({ busyIn 2#4 3 true with sync1 := true } : State).SyncInv ∧
    step { busyIn 2#4 3 true with sync1 := true } = .next (stepD { busyIn 2#4 3 true with sync1 := true }) :=
  ⟨⟨by decide, by decide, by decide, by decide, by decide⟩, rfl⟩

theorem witness_InvariantStatesAlwaysStep : (checking 0x021A011330#40).Inv ∧ (checking 0x021A011330#40).Accepted :=
  ⟨checking_good_inv, by decide⟩

/-- The first cycle of a start pulse; the first and the last cycle index of it. -/
theorem witness_StartPulseLastsExactlyItsWindow :
    (lined (busyIn 1#4 1 true) true true [true]).Accepted ∧ (lined (busyIn 1#4 1 true) true true [true]).NoReset ∧
    (lined (busyIn 1#4 1 true) true true [true]).err ≠ 3#2 ∧ (lined (busyIn 1#4 1 true) true true [true]).state = 1#4 ∧
    (lined (busyIn 1#4 1 true) true true [true]).tcnt = 1 ∧
    0 < (lined (busyIn 1#4 1 true) true true [true]).params.tStartCyc ∧
    19999 < (lined (busyIn 1#4 1 true) true true [true]).params.tStartCyc :=
  ⟨by decide, lined_noReset _ _ _ _, by decide, rfl, rfl, by decide, by decide⟩

/-- The shortest handshake of one cycle a level, in a window of exactly four cycles. -/
theorem witness_HandshakeWithinTheWindowSucceeds :
    let s := lined { busyIn 2#4 1 true with params := { resetParams with tHsUs := 4 } } true false [true, false]
    s.Accepted ∧ s.NoReset ∧ s.err ≠ 3#2 ∧ s.state = 2#4 ∧ s.tcnt = 1 ∧ 0 + 1 + 1 + 1 + 1 ≤ s.params.tHsCyc ∧
    List.replicate 0 false ++ List.replicate 1 true ++ List.replicate 1 false ++ List.replicate 1 true ++ [false]
      <+: s.lineStream :=
  ⟨by decide, lined_noReset _ _ _ _, by decide, rfl, rfl, by decide, by rw [lined_stream]; decide⟩

/-- A window of which one cycle is left, and one that is used up. -/
theorem witness_SilentLineTimesOut :
    (let s := lined (busyIn 3#4 1099 true) true true [];
      s.Accepted ∧ s.NoReset ∧ s.err ≠ 3#2 ∧ s.state = 3#4 ∧ s.tcnt ≤ s.params.tHsCyc ∧
      List.replicate (s.params.tHsCyc - s.tcnt + 1) true <+: s.lineStream) ∧
    (let s := lined (busyIn 3#4 1100 true) true true [];
      s.Accepted ∧ s.NoReset ∧ s.err ≠ 3#2 ∧ s.state = 3#4 ∧ s.tcnt ≤ s.params.tHsCyc ∧
      List.replicate (s.params.tHsCyc - s.tcnt + 1) true <+: s.lineStream) :=
  ⟨⟨by decide, lined_noReset _ _ _ _, by decide, rfl, by decide, by rw [lined_stream]; decide⟩,
    by decide, lined_noReset _ _ _ _, by decide, rfl, by decide, by rw [lined_stream]; decide⟩

/-- A symbol at the lower ends of its windows, as the first and as the last bit, and one at the upper ends. -/
theorem witness_OneSymbolIsReceivedAsItsBit :
    (let s := lined (busyIn 6#4 1 true) true false [];
      s.Accepted ∧ s.NoReset ∧ s.err ≠ 3#2 ∧ s.state = 6#4 ∧ s.tcnt = 1 ∧ SymbolFits s.params (0, 1) ∧
      s.bitcnt ≠ 39#6 ∧ symbolLevels 0 1 <+: s.lineStream) ∧
    (let s := lined { busyIn 6#4 1 true with bitcnt := 39#6 } true false [];
      s.Accepted ∧ s.NoReset ∧ s.err ≠ 3#2 ∧ s.state = 6#4 ∧ s.tcnt = 1 ∧ SymbolFits s.params (0, 1) ∧
      s.bitcnt = 39#6 ∧ symbolLevels 0 1 <+: s.lineStream) ∧
    SymbolFits resetParams (199, 200) :=
  ⟨⟨by decide, lined_noReset _ _ _ _, by decide, rfl, rfl, by decide, by decide, by rw [lined_stream]; decide⟩,
    ⟨by decide, lined_noReset _ _ _ _, by decide, rfl, rfl, by decide, rfl, by rw [lined_stream]; decide⟩, by decide⟩

/-- Forty equal symbols. -/
def fortySymbols (high : Nat) : List (Nat × Nat) := List.replicate 40 (0, high)

/-- The state that sees them: the first two levels of a symbol with `high >= 2` are high. -/
def seeing (high : Nat) : State := lined (busyIn 6#4 1 true) true true ((frameLevels (fortySymbols high)).drop 2)

/-- Forty symbols whose bits are 0 (high phase 50) and pass the checksum, and forty whose bits are 1 (high phase 51) and fail it. -/
theorem witness_FortySymbolsAreDecodedAndPosted :
    (∀ high ∈ [50, 51],
      (seeing high).Accepted ∧ (seeing high).NoReset ∧ (seeing high).err ≠ 3#2 ∧ (seeing high).state = 6#4 ∧
      (seeing high).tcnt = 1 ∧ (seeing high).bitcnt = 0#6 ∧ (fortySymbols high).length = 40 ∧
      (∀ sym ∈ fortySymbols high, SymbolFits (seeing high).params sym) ∧
      frameLevels (fortySymbols high) <+: (seeing high).lineStream) ∧
    frameOk (packDurations resetParams 0#40 (List.replicate 40 50)) = true ∧
    frameOk (packDurations resetParams 0#40 (List.replicate 40 51)) = false := by
  refine ⟨?_, by decide +kernel, by decide +kernel⟩
  intro high hh
  have h2 : 2 ≤ high ∧ high ≤ 200 := by fin_cases hh <;> decide
  refine ⟨(by decide : State.reset.Accepted), lined_noReset _ _ _ _, (by decide : State.reset.err ≠ 3#2), rfl, rfl, rfl, by simp [fortySymbols], ?_, ?_⟩
  · intro sym hs
    rw [List.eq_of_mem_replicate hs]
    exact ⟨(by decide : 0 < resetParams.tBlCyc), by omega, h2.2⟩
  · obtain ⟨n, rfl⟩ : ∃ n, high = n + 2 := ⟨high - 2, by omega⟩
    unfold seeing
    rw [lined_stream]
    have h : frameLevels (fortySymbols (n + 2)) = true :: true :: (frameLevels (fortySymbols (n + 2))).drop 2 := by
      simp [fortySymbols, frameLevels, symbolLevels, List.replicate_succ]
    rw [← h]

theorem witness_EveryReadTerminatesWithinTheBound :
    (stateZ (writing 0#3 1#32)).Accepted ∧ (stateZ (writing 0#3 1#32)).NoReset ∧
    (stateZ (writing 0#3 1#32)).state = 0#4 ∧ (stateZ (writing 0#3 1#32)).nextInput.isStart = true :=
  ⟨by decide, (by decide : ∀ i ∈ [writing 0#3 1#32], i.rst = false), rfl, by decide⟩

end Sys2Proof.Tests
end

section
/-! Proofs of the scope statements (spec/00_scope.md R9, R12): which configurations run a cycle, what a cycle begins with and what it
is made of. -/

namespace Sys2Proof.Machine

/-! ### Which configurations run a cycle (R9) -/

/-- An accepted configuration runs its cycle. -/
theorem step_eq_runCycle (s : State) (ha : s.Accepted) : step s = runCycle s := by
  unfold step
  rw [s.refusal_eq_none_iff.mpr ha]

/-- Parameters that are not well-formed are refused before the platform is looked at. -/
theorem step_of_not_wf (s : State) (h : ¬ s.params.Wf) : step s = .refused .configuration := by
  have hr : s.refusal = some .configuration := if_pos h
  unfold step
  rw [hr]

/-- Settles O6: each broken condition of R9 contradicts its conjunct of `Params.Wf`. -/
theorem brokenConfigurationIsRefused : Obligations.BrokenConfigurationIsRefused := by
  unfold Obligations.BrokenConfigurationIsRefused
  intro s hbroken
  apply step_of_not_wf
  rintro ⟨hclk, hstart, -, -, hhigh, hwidth⟩
  rcases hbroken with h | h | h | h
  · exact absurd hclk (Nat.not_le_of_lt h)
  · exact absurd hstart (Nat.not_le_of_lt h)
  · exact absurd hhigh (Nat.not_lt_of_le h)
  · exact absurd hwidth (Nat.not_lt_of_le h)

/-! ### What a cycle begins with (R12, R31, R33) -/

/-- The SWPC drives the line exactly in START_LOW outside reset (R31). -/
theorem State.driveLow_eq_decide (s : State) (rst : Bool) :
    s.driveLow rst = decide (s.state = 1#4 ∧ rst = false) := by
  cases rst <;> simp [State.driveLow, Bool.beq_eq_decide_eq]

/-- The pad is low while driven, else it follows the environment (R33). -/
theorem padLevel_eq_ite (drive line : Bool) : padLevel drive line = if drive then false else line := by
  cases drive <;> rfl

/-- Settles O5: the next input is the head of the list; the drive and the pad follow R31 and R33. -/
theorem cycleBeginsWithItsInputs : Obligations.CycleBeginsWithItsInputs := by
  unfold Obligations.CycleBeginsWithItsInputs
  intro s i rest hin
  unfold State.sample
  rw [s.nextInput_cons i rest hin, s.driveLow_eq_decide, padLevel_eq_ite, hin]
  simp only [decide_eq_true_eq, List.tail_cons]

/-! ### What a cycle is made of (R12, R52, R55) -/

/-- With `bus_sel` 0 the bus phase does nothing (R52). -/
theorem busPhase_of_not_busSel (u : State) (h : u.pins.busSel = false) : busPhase u = .next u := by
  simp [busPhase, Input.transaction, h]

/-- With `bus_sel` 1 the bus phase is the transaction of the bus ports (R52). -/
theorem busPhase_of_busSel (u : State) (h : u.pins.busSel = true) :
    busPhase u = exec (decodeBus (txnOf u.pins.busWe u.pins.busIdx) u.pins.busWdata) u := by
  simp [busPhase, Input.transaction, h]

/-- With `rst` the clock edge resets (R134). -/
theorem fsmPhase_of_rst (u : State) (h : u.pins.rst = true) : fsmPhase u = .next u.applyReset := if_pos h

/-- Without a transaction the cycle is its FSM phase. -/
theorem runCycle_of_not_busSel (s : State) (h : s.nextInput.busSel = false) : runCycle s = fsmPhase s.sample := by
  unfold runCycle
  rw [busPhase_of_not_busSel s.sample h]

/-- Settles O4: a step of an accepted configuration is its cycle, and a cycle its bus phase and its FSM phase. -/
theorem stepRunsTheDecodedInstructions : Obligations.StepRunsTheDecodedInstructions := by
  unfold Obligations.StepRunsTheDecodedInstructions
  refine ⟨?noTransaction, ?transaction, ?operation, fsmPhase_of_rst⟩
  case noTransaction =>
    intro s ha hsel
    rw [step_eq_runCycle s ha, runCycle_of_not_busSel s hsel]
  case transaction =>
    rintro s i ha hsel rfl
    have hbus := busPhase_of_busSel s.sample hsel
    simp only [State.sample_pins_busWe, State.sample_pins_busIdx, State.sample_pins_busWdata] at hbus
    cases hexec : exec (decodeBus (txnOf s.nextInput.busWe s.nextInput.busIdx) s.nextInput.busWdata) s.sample <;>
      simp only [step_eq_runCycle s ha, runCycle, hbus, hexec]
  case operation =>
    rintro u i hrst rfl
    unfold fsmPhase State.operation
    rw [if_neg (by simp [hrst])]
    cases exec (decodeFsm u.state) u <;> rfl

end Sys2Proof.Machine
end

section
/-! Proofs of the state statements (spec/10_state.md): the invariant that reset sets up and every step keeps, the line and the
synchronizer, and what a step can do to the state code, to the results and to the parameters. -/

namespace Sys2Proof.Machine

/-! ### What a step is made of (R12, R134) -/

/-- A step that answers a next state resets, or runs the operation of its state code and then the clock edge. -/
theorem step_cases {s t : State} (h : step s = .next t) :
    (s.nextInput.rst = true ∧ t = s.afterBus.applyReset) ∨
    (s.nextInput.rst = false ∧ ∃ v, exec (decodeFsm s.state) s.afterBus = .next v ∧ t = v.shiftSync) :=
  fsmPhase_next (step_next h).2

/-! ### The invariant at reset (R35) -/

/-- The elements that a reset leaves meet the invariant under all parameters. -/
theorem State.applyReset_inv (s : State) : s.applyReset.Inv := by
  simp [State.Inv, State.LegalCode, State.BusyDoneLaw, State.ErrValidLaw, State.CountLaw, State.BitLaw, State.ResultLaw]

/-- The reset state is what a reset leaves (R35, R134). -/
theorem State.reset_eq_applyReset : State.reset = State.reset.applyReset := rfl

/-- Settles O47: the reset state is what a reset leaves. -/
theorem invariantHoldsAtReset : Obligations.InvariantHoldsAtReset := by
  unfold Obligations.InvariantHoldsAtReset
  rw [State.reset_eq_applyReset]
  exact State.reset.applyReset_inv

/-- Settles O30: the values of R35, and the eight registers one by one. -/
theorem resetStateValues : Obligations.ResetStateValues := by
  unfold Obligations.ResetStateValues
  refine ⟨by decide, fun reg => ?_⟩
  cases reg <;> rfl

/-! ### A read in flight (R27 to R30)

Outside IDLE the invariant fixes every flag and every result, so that there it comes down to the code, the count and the bits. -/

/-- A read in flight: BUSY is the only flag set, and no result is shown. -/
structure State.InFlight (s : State) : Prop where
  busy : s.busy = true
  done : s.done = false
  valid : s.valid = false
  err : s.err = errNone
  results : s.hum = 0#16 ∧ s.temp = 0#16 ∧ s.raw0 = 0#32 ∧ s.raw1 = 0#8

/-- A busy code is not IDLE. -/
theorem ne_codeIdle_of_pos {c : Code} (h : 1 ≤ c.toNat) : c ≠ codeIdle := by
  rintro rfl
  exact absurd h (by decide)

/-- A move inside a read leaves it in flight. -/
theorem State.InFlight.goto {s : State} (h : s.InFlight) (c : Code) (n : Nat) : (s.goto c n).InFlight :=
  ⟨h.busy, h.done, h.valid, h.err, h.results⟩

/-- A received bit leaves the read in flight. -/
theorem State.InFlight.shiftBit {s : State} (h : s.InFlight) (b : Bool) : (s.shiftBit b).InFlight :=
  ⟨h.busy, h.done, h.valid, h.err, h.results⟩

/-- Outside IDLE an invariant state has a read in flight. -/
theorem State.Inv.inFlight {s : State} (h : s.Inv) (hbusy : s.state ≠ codeIdle) : s.InFlight := by
  obtain ⟨-, ⟨hbusyIff, hnotBoth⟩, ⟨hvalidIff, -, herr⟩, -, -, hzero, -⟩ := h
  have hb : s.busy = true := hbusyIff.mpr hbusy
  have hd : s.done = false := by simpa [hb] using hnotBoth
  have hv : s.valid = false := by simpa [hd] using hvalidIff
  exact ⟨hb, hd, hv, herr hd, hzero hv⟩

/-- With a read in flight the invariant is a busy code and the laws of the two counters. -/
theorem State.InFlight.inv {s : State} (h : s.InFlight) (hcode : 1 ≤ s.state.toNat ∧ s.state.toNat ≤ 8)
    (hcount : s.CountLaw) (hbits : s.BitLaw) : s.Inv := by
  obtain ⟨hb, hd, hv, he, hres⟩ := h
  have hne := ne_codeIdle_of_pos hcode.1
  refine ⟨hcode.2, ?busyDone, ?errValid, hcount, hbits, ?results⟩
  case busyDone => exact ⟨⟨fun _ => hne, fun _ => hb⟩, by simp [hd]⟩
  case errValid => exact ⟨by simp [hv, hd], by simp [he], fun _ => he⟩
  case results => exact ⟨fun _ => hres, by simp [hv]⟩

/-- A read that ends with an error meets the invariant: nothing of the frame is shown (R110, R119). -/
theorem State.Inv.complete_error {s : State} (h : s.Inv) (hbusy : s.state ≠ codeIdle) {e : BitVec 2}
    (he : e ≠ errNone ∧ e ≠ errReserved) : (s.complete e).Inv := by
  have hres := (h.inFlight hbusy).results
  obtain ⟨-, -, -, -, ⟨hmax, -, -, -, hframe⟩, -⟩ := h
  simp only [errNone_eq, errReserved_eq] at he
  refine ⟨by simp [State.LegalCode], by simp [State.BusyDoneLaw], ?errValid, by simp [State.CountLaw], ?bits, ?results⟩
  case errValid => exact ⟨by simp, by simpa using he.2, by simp⟩
  case bits => exact ⟨hmax, by simp, by simp, by simp, hframe⟩
  case results => exact ⟨fun _ => hres, by simp [he.1]⟩

/-! ### Moves inside a read (R85 to R98) -/

/-- A tick stays in its state with the count one higher. -/
theorem State.tick_eq_goto (s : State) : s.tick = s.goto s.state (s.tcnt + 1) := rfl

/-- Before the first data bit a move keeps the invariant when the new state's count is within its window. -/
theorem State.Inv.goto_handshake {s : State} (h : s.Inv) (hs : 1 ≤ s.state.toNat ∧ s.state.toNat ≤ 5) {c : Code} {n : Nat}
    (hc : 1 ≤ c.toNat ∧ c.toNat ≤ 6) (hcount : (s.goto c n).CountLaw) : (s.goto c n).Inv := by
  have hflight := h.inFlight (ne_codeIdle_of_pos hs.1)
  obtain ⟨-, -, -, -, ⟨-, hnone, -, -, hframe⟩, -⟩ := h
  have hbit : s.bitcnt = 0#6 := hnone hs
  have hcheck : c ≠ codeCheck := by
    rintro rfl
    simp at hc
  refine (hflight.goto c n).inv
    ⟨hc.1, by simp; omega⟩ hcount ?_
  exact ⟨by simp [hbit], fun _ => hbit, by simp [hbit, Config.nBits], fun h => absurd h hcheck, hframe⟩

/-- Between the phases of a data bit a move keeps the invariant when the new state's count is within its window. -/
theorem State.Inv.goto_bit {s : State} (h : s.Inv) (hs : s.state = codeBitLow ∨ s.state = codeBitHigh) {c : Code} {n : Nat}
    (hc : c = codeBitLow ∨ c = codeBitHigh) (hcount : (s.goto c n).CountLaw) : (s.goto c n).Inv := by
  have hflight := h.inFlight (by rcases hs with hs | hs <;> simp [hs])
  obtain ⟨-, -, -, -, ⟨hmax, -, hbit, -, hframe⟩, -⟩ := h
  refine (hflight.goto c n).inv ?code hcount
    ⟨hmax, ?handshake, fun _ => hbit hs, ?check, hframe⟩
  all_goals rcases hc with rfl | rfl <;> simp

/-- A decided bit at most doubles the frame and adds one, so that the frame stays below `2 ^ bitcnt` (R24, R98). -/
theorem State.shiftBit_frame_lt {s : State} (b : Bool) (hbit : s.bitcnt.toNat < Config.nBits)
    (hframe : s.shreg.toNat < 2 ^ s.bitcnt.toNat) :
    (s.shiftBit b).bitcnt.toNat = s.bitcnt.toNat + 1 ∧
      (s.shiftBit b).shreg.toNat < 2 ^ (s.shiftBit b).bitcnt.toNat := by
  have hcnt : (s.shiftBit b).bitcnt.toNat = s.bitcnt.toNat + 1 := by
    simp only [Config.nBits] at hbit
    simp [BitVec.toNat_add]
    omega
  refine ⟨hcnt, ?_⟩
  have hb := b.toNat_lt
  rw [hcnt, Nat.pow_succ, State.shiftBit_shreg, shiftIn_toNat]
  exact lt_of_le_of_lt (Nat.mod_le _ _) (by omega)

/-- The end of a data bit keeps the invariant: the bit enters the frame, and CHECK follows the 40th (R98). -/
theorem State.Inv.shiftBit_goto {s : State} (h : s.Inv) (hs : s.state = codeBitHigh) (b : Bool) {c : Code} {n : Nat}
    (hc : c = codeBitLow ∧ s.bitcnt.toNat + 1 ≠ Config.nBits ∨ c = codeCheck ∧ s.bitcnt.toNat + 1 = Config.nBits)
    (hcount : ((s.shiftBit b).goto c n).CountLaw) : ((s.shiftBit b).goto c n).Inv := by
  have hflight := h.inFlight (by simp [hs])
  obtain ⟨-, -, -, -, ⟨-, -, hbit, -, hframe⟩, -⟩ := h
  have hlt : s.bitcnt.toNat < Config.nBits := hbit (.inr hs)
  obtain ⟨hcnt, hframe'⟩ := State.shiftBit_frame_lt b hlt hframe
  refine ((hflight.shiftBit b).goto c n).inv ?code hcount
    ⟨?max, ?handshake, ?bitPhase, ?check, hframe'⟩
  case max => exact hcnt.trans_le hlt
  all_goals
    rcases hc with ⟨rfl, hnext⟩ | ⟨rfl, hnext⟩ <;>
      simp only [State.goto_state, State.goto_bitcnt, hcnt] <;> simp <;> omega

/-! ### The operations (R86 to R104) -/

/-- An accepted START begins a read with nothing received. -/
theorem State.acceptStart_inv {s : State} (hwin : 1 ≤ s.params.tStartCyc) : s.acceptStart.Inv := by
  refine State.InFlight.inv ⟨rfl, rfl, rfl, rfl, rfl, rfl, rfl, rfl⟩ (by simp) ?count ?bits
  case count => simp [State.CountLaw, hwin]
  case bits => simp [State.BitLaw]

/-- A wait keeps the invariant when its move and its tick do: its timeout always does (R85). -/
theorem State.Inv.waitFor {s : State} (h : s.Inv) (hbusy : s.state ≠ codeIdle) {cond : Bool} {limit n : Nat} {target : Code}
    (hmove : (s.goto target n).Inv) (htick : s.tcnt < limit → (s.goto s.state (s.tcnt + 1)).Inv) :
    (s.waitFor cond limit target n).Inv := by
  rcases s.waitFor_cases cond limit target n with ⟨-, hv⟩ | ⟨-, -, hv⟩ | ⟨-, hlt, hv⟩ <;> rw [hv]
  · exact hmove
  · exact h.complete_error hbusy (by decide)
  · rw [State.tick_eq_goto]
    exact htick hlt

/-- RAW0 shows bytes 0 and 1 in its upper half (R30). -/
theorem append_bytes_upper (b0 b1 b2 b3 : Byte) : (b0 ++ b1 ++ b2 ++ b3).extractLsb' 16 16 = b0 ++ b1 := by
  rw [BitVec.append_assoc]
  exact (BitVec.extractLsb'_append_eq_of_le (by omega)).trans (by simp)

/-- RAW0 shows bytes 2 and 3 in its lower half (R30). -/
theorem append_bytes_lower (b0 b1 b2 b3 : Byte) : (b0 ++ b1 ++ b2 ++ b3).extractLsb' 0 16 = b2 ++ b3 := by
  rw [BitVec.append_assoc]
  exact (BitVec.extractLsb'_append_eq_of_add_le (by omega)).trans (by simp)

/-- A read that passes CHECK shows the received frame and its quotients (R104, R106 to R108). -/
theorem State.Inv.postResult_complete {s : State} (h : s.Inv) (hok : frameOk s.shreg = true) :
    (s.postResult.complete errNone).Inv := by
  obtain ⟨-, -, -, -, ⟨hmax, -, -, -, hframe⟩, -⟩ := h
  have hraw : s.postResult.raw0 ++ s.postResult.raw1 = s.shreg := bytes_append s.shreg
  refine ⟨by simp [State.LegalCode], by simp [State.BusyDoneLaw], by simp [State.ErrValidLaw], by simp [State.CountLaw],
    ⟨hmax, by simp, by simp, by simp, hframe⟩, by simp, fun _ => ⟨hraw, ?ok, ?hum, ?temp⟩⟩
  case ok => exact (congrArg frameOk hraw).trans hok
  case hum => exact congrArg (· / 10#16) (append_bytes_upper _ _ _ _).symm
  case temp => exact congrArg (· / 10#16) (append_bytes_lower _ _ _ _).symm

/-- Every window of an accepted configuration is at least one cycle long (R9). -/
theorem windows_pos_of_wf {p : Params} (h : p.Wf) :
    1 ≤ p.tStartCyc ∧ 1 ≤ p.tHsCyc ∧ 1 ≤ p.tBlCyc ∧ 1 ≤ p.tBhCyc := by
  obtain ⟨hclk, hstart, hhs, hbl, hbh, -⟩ := h
  refine ⟨Nat.mul_pos ?_ hclk, Nat.mul_pos hhs hclk, Nat.mul_pos hbl hclk, Nat.mul_pos ?_ hclk⟩ <;> omega

/-- A wait of the handshake keeps the invariant when the counts of its move and of its tick are within their windows. -/
theorem State.Inv.waitFor_handshake {s : State} (h : s.Inv) (hs : 1 ≤ s.state.toNat ∧ s.state.toNat ≤ 5)
    {cond : Bool} {limit n : Nat} {target : Code} (htarget : 1 ≤ target.toNat ∧ target.toNat ≤ 6)
    (hmove : (s.goto target n).CountLaw) (htick : s.tcnt < limit → (s.goto s.state (s.tcnt + 1)).CountLaw) :
    (s.waitFor cond limit target n).Inv := by
  exact h.waitFor (ne_codeIdle_of_pos hs.1) (h.goto_handshake hs htarget hmove)
    (fun hlt => h.goto_handshake hs ⟨hs.1, by omega⟩ (htick hlt))

/-- The ports and the transaction touch nothing of the invariant. -/
theorem State.afterBus_inv {s : State} : s.afterBus.Inv ↔ s.Inv := Iff.rfl

/-- The clock edge touches nothing of the invariant. -/
theorem State.shiftSync_inv {s : State} : s.shiftSync.Inv ↔ s.Inv := Iff.rfl

/-- The count law of an invariant state. -/
theorem State.Inv.countLaw {s : State} (h : s.Inv) : s.CountLaw := by
  obtain ⟨-, -, -, hcount, -, -⟩ := h
  exact hcount

/-- Every operation of an accepted configuration keeps the invariant. -/
theorem exec_fsm_inv {u v : State} (hwf : u.params.Wf) (h : u.Inv) (hv : exec (decodeFsm u.state) u = .next v) : v.Inv := by
  obtain ⟨pstart, phs, pbl, pbh⟩ := windows_pos_of_wf hwf
  obtain ⟨-, -, crel, cresp, cackl, -, -, -, -⟩ := h.countLaw
  rcases exec_fsm_next hv with ⟨hs, rfl⟩ | ⟨hs, rfl⟩ | ⟨hs, rfl⟩ | ⟨hs, rfl⟩ | ⟨hs, rfl⟩ | ⟨hs, rfl⟩ | ⟨hs, rfl⟩ |
    ⟨hs, hbit⟩ | ⟨hs, rfl⟩
  · -- IDLE
    split
    · exact State.acceptStart_inv pstart
    · exact h
  · -- START_LOW
    split
    · exact h.goto_handshake (by simp [hs]) (by simp) (by simp [State.CountLaw, phs])
    · next hlt =>
      rw [State.tick_eq_goto]
      exact h.goto_handshake (by simp [hs]) (by simp [hs]) (by simp [State.CountLaw, hs]; omega)
  · -- RELEASE
    exact h.waitFor_handshake (by simp [hs]) (by simp) (by simp [State.CountLaw, crel hs])
      (fun hlt => by simp [State.CountLaw, hs]; omega)
  · -- RESP
    exact h.waitFor_handshake (by simp [hs]) (by simp) (by simp [State.CountLaw, cresp hs])
      (fun hlt => by simp [State.CountLaw, hs]; omega)
  · -- ACK_LOW
    exact h.waitFor_handshake (by simp [hs]) (by simp) (by simp [State.CountLaw, cackl hs])
      (fun hlt => by simp [State.CountLaw, hs]; omega)
  · -- ACK_HIGH
    exact h.waitFor_handshake (by simp [hs]) (by simp) (by simp [State.CountLaw, pbl])
      (fun hlt => by simp [State.CountLaw, hs]; omega)
  · -- BIT_LOW
    exact h.waitFor (by simp [hs]) (h.goto_bit (.inl hs) (.inr rfl) (by simp [State.CountLaw, pbh]))
      (fun hlt => h.goto_bit (.inl hs) (.inl hs) (by simp [State.CountLaw, hs]; omega))
  · -- BIT_HIGH
    rcases hbit with ⟨-, -, rfl⟩ | ⟨-, hlt, rfl⟩ | ⟨-, hlast, rfl⟩ | ⟨-, hmore, rfl⟩
    · exact h.complete_error (by simp [hs]) (by decide)
    · rw [State.tick_eq_goto]
      exact h.goto_bit (.inr hs) (.inr hs) (by simp [State.CountLaw, hs]; omega)
    · exact h.shiftBit_goto hs _ (.inr ⟨rfl, hlast⟩) (by simp [State.CountLaw])
    · exact h.shiftBit_goto hs _ (.inl ⟨rfl, hmore⟩) (by simp [State.CountLaw, pbl])
  · -- CHECK
    split
    · next hok => exact h.postResult_complete hok
    · exact h.complete_error (by simp [hs]) (by decide)

/-- Settles O48: a step resets, or runs an operation between the ports and the clock edge. -/
theorem everyStepKeepsTheInvariant : Obligations.EveryStepKeepsTheInvariant := by
  unfold Obligations.EveryStepKeepsTheInvariant
  intro s t h hstep
  obtain ⟨⟨hwf, -, -⟩, -⟩ := step_next hstep
  rcases step_cases hstep with ⟨-, rfl⟩ | ⟨-, v, hv, rfl⟩
  · exact s.afterBus.applyReset_inv
  · exact State.shiftSync_inv.mpr (exec_fsm_inv (u := s.afterBus) hwf (State.afterBus_inv.mpr h) hv)

/-! ### What no operation touches (R12, R37) -/

/-- Everything outside the elements an FSM operation works on: the synchronizer, the ports, the coming inputs, the cycle counter,
the parameters and the platform. -/
structure State.SameSurroundings (s t : State) : Prop where
  sync1 : t.sync1 = s.sync1
  lineS : t.lineS = s.lineS
  pins : t.pins = s.pins
  startReq : t.startReq = s.startReq
  driveLowO : t.driveLowO = s.driveLowO
  busRdata : t.busRdata = s.busRdata
  inputs : t.inputs = s.inputs
  cycle : t.cycle = s.cycle
  params : t.params = s.params
  platform : t.platform = s.platform

/-- A wait touches nothing of the surroundings, whichever of its three branches it takes. -/
theorem State.waitFor_sameSurroundings (s : State) (cond : Bool) (limit n : Nat) (target : Code) :
    s.SameSurroundings (s.waitFor cond limit target n) := by
  constructor <;> simp

/-- No FSM operation touches the surroundings. -/
theorem exec_fsm_sameSurroundings {c : Code} {u v : State} (h : exec (decodeFsm c) u = .next v) : u.SameSurroundings v := by
  rcases exec_fsm_next h with ⟨-, rfl⟩ | ⟨-, rfl⟩ | ⟨-, rfl⟩ | ⟨-, rfl⟩ | ⟨-, rfl⟩ | ⟨-, rfl⟩ | ⟨-, rfl⟩ |
    ⟨-, hbit⟩ | ⟨-, rfl⟩
  · -- IDLE
    split <;> constructor <;> rfl
  · -- START_LOW
    split <;> constructor <;> rfl
  iterate 5 -- the five waits
    exact u.waitFor_sameSurroundings ..
  · -- BIT_HIGH
    rcases hbit with ⟨-, -, rfl⟩ | ⟨-, -, rfl⟩ | ⟨-, -, rfl⟩ | ⟨-, -, rfl⟩ <;> constructor <;> rfl
  · -- CHECK
    split <;> constructor <;> rfl

/-- The ports, the parameters and the platform after a step are those its cycle began with. -/
theorem step_surroundings {s t : State} (h : step s = .next t) :
    t.pins = s.sample.pins ∧ t.driveLowO = s.driveLow s.nextInput.rst ∧ t.params = s.params ∧ t.platform = s.platform := by
  rcases step_cases h with ⟨-, rfl⟩ | ⟨-, v, hv, rfl⟩
  · exact ⟨rfl, rfl, rfl, rfl⟩
  · have hsame := exec_fsm_sameSurroundings hv
    exact ⟨hsame.pins, hsame.driveLowO, hsame.params, hsame.platform⟩

/-- The `rst` port after a step is the reset input of its cycle. -/
theorem step_pins_rst {s t : State} (h : step s = .next t) : t.pins.rst = s.nextInput.rst := by
  rw [(step_surroundings h).1, State.sample_pins_rst]

/-- Without `rst` a step runs the operation of its state code and then the clock edge. -/
theorem step_operation {s t : State} (h : step s = .next t) (hrst : t.pins.rst = false) :
    ∃ v, exec (decodeFsm s.state) s.afterBus = .next v ∧ t = v.shiftSync := by
  rw [step_pins_rst h] at hrst
  rcases step_cases h with ⟨hreset, -⟩ | ⟨-, hop⟩
  · simp [hrst] at hreset
  · exact hop

/-- Settles O45: the parameters and the platform are surroundings of every operation. -/
theorem parametersNeverChange : Obligations.ParametersNeverChange := by
  unfold Obligations.ParametersNeverChange
  intro s t h
  obtain ⟨-, -, hparams, hplatform⟩ := step_surroundings h
  exact ⟨hparams, hplatform⟩

/-! ### The line and the synchronizer (R21, R31, R33) -/

/-- Settles O28: the ports after a step are those its cycle began with. -/
theorem lineIsDrivenOnlyInStartLow : Obligations.LineIsDrivenOnlyInStartLow := by
  unfold Obligations.LineIsDrivenOnlyInStartLow
  intro s t h
  obtain ⟨hpins, hdrive, -, -⟩ := step_surroundings h
  have hline : t.pins.lineI = padLevel t.driveLowO s.nextInput.lineI := by rw [hpins, hdrive, State.sample_pins_lineI]
  refine ⟨by rw [hdrive, s.driveLow_eq_decide, decide_eq_true_eq], ?driven, ?released⟩
  case driven => intro hd; rw [hline, hd, padLevel_driven]
  case released => intro hd; rw [hline, hd, padLevel_released]

/-- Without `rst` the clock edge of a step shifts the synchronizer (R21). -/
theorem step_shiftSync {s t : State} (h : step s = .next t) (hrst : t.pins.rst = false) :
    t.sync1 = t.pins.lineI ∧ t.lineS = s.sync1 := by
  obtain ⟨v, hv, rfl⟩ := step_operation h hrst
  exact ⟨rfl, (exec_fsm_sameSurroundings hv).sync1⟩

/-- With `rst` the clock edge of a step sets both flops (R134). -/
theorem step_resetSync {s t : State} (h : step s = .next t) (hrst : t.pins.rst = true) :
    t.sync1 = true ∧ t.lineS = true := by
  rw [step_pins_rst h] at hrst
  rcases step_cases h with ⟨-, rfl⟩ | ⟨hno, -⟩
  · exact ⟨rfl, rfl⟩
  · simp [hrst] at hno

/-- The state with other input ports. -/
def State.withPins (p : Input) (s : State) : State := { s with pins := p }

/-- A wait does not see the input ports. -/
theorem State.waitFor_withPins (s : State) (p : Input) (cond : Bool) (limit n : Nat) (target : Code) :
    (s.withPins p).waitFor cond limit target n = (s.waitFor cond limit target n).withPins p := by
  unfold State.waitFor
  simp only [apply_ite (State.withPins p)]
  rfl

/-- No operation sees the input ports, so none sees `line_i` (R21). -/
theorem exec_fsm_withPins {c : Code} {u v : State} (p : Input) (h : exec (decodeFsm c) u = .next v) :
    exec (decodeFsm c) (u.withPins p) = .next (v.withPins p) := by
  rcases decodeFsm_cases c with ⟨-, hd⟩ | ⟨-, hd⟩ | ⟨-, hd⟩ | ⟨-, hd⟩ | ⟨-, hd⟩ | ⟨-, hd⟩ | ⟨-, hd⟩ |
    ⟨-, hd⟩ | ⟨-, hd⟩ | ⟨-, hd | ⟨l, hd⟩ | ⟨l, hd⟩⟩ <;> rw [hd] at h ⊢ <;> cases h
  · -- IDLE
    simp only [apply_ite (State.withPins p)]; rfl
  · -- START_LOW
    simp only [apply_ite (State.withPins p)]; rfl
  iterate 5 -- the five waits
    · rw [← State.waitFor_withPins]; rfl
  · -- BIT_HIGH
    simp only [apply_ite (State.withPins p)]; rfl
  · -- CHECK
    simp only [apply_ite (State.withPins p)]; rfl

/-- Without `rst` the FSM phase is the operation of the state code and then the clock edge. -/
theorem fsmPhase_of_exec {u v : State} (hrst : u.pins.rst = false) (hv : exec (decodeFsm u.state) u = .next v) :
    fsmPhase u = .next v.shiftSync := by
  unfold fsmPhase State.operation
  rw [if_neg (by simp [hrst])]
  simp only [hv]

/-- Under other input ports with the same `rst`, the FSM phase answers the same state but for `sync1` and the ports (R21). -/
theorem fsmPhase_withPins {u t : State} {p : Input} (hrst : p.rst = u.pins.rst) (h : fsmPhase u = .next t) :
    ∃ t', fsmPhase (u.withPins p) = .next t' ∧ { t' with sync1 := t.sync1, pins := t.pins } = t := by
  rcases fsmPhase_next h with ⟨hr, rfl⟩ | ⟨hr, v, hv, rfl⟩
  · exact ⟨_, fsmPhase_of_rst _ (hrst.trans hr), rfl⟩
  · exact ⟨_, fsmPhase_of_exec (u := u.withPins p) (hrst.trans hr) (exec_fsm_withPins p hv), rfl⟩

/-- When a step answers a next state: an accepted configuration, no STATUS read of ERR = 3, and an FSM phase that answers it. -/
theorem step_next_iff {s t : State} :
    step s = .next t ↔
      s.Accepted ∧ ¬ (s.err = errReserved ∧ s.nextInput.readsStatus = true) ∧ fsmPhase s.afterBus = .next t := by
  constructor
  · intro h
    have ha := (step_next h).1
    rw [step_accepted s ha] at h
    split at h
    · cases h
    · next hread => exact ⟨ha, hread, h⟩
  · rintro ⟨ha, hread, h⟩
    rw [step_accepted s ha, if_neg hread, h]

/-- Another line level in a presented input changes nothing before the FSM phase but the input ports. -/
theorem State.afterBus_present_lineI (s : State) (i : Input) (level : Bool) :
    (s.present { i with lineI := level }).afterBus =
      (s.present i).afterBus.withPins (s.present { i with lineI := level }).sample.pins := by
  simp only [State.afterBus, State.busReadValue_present, State.nextInput_present]
  rfl

/-- Settles O29: the clock edge shifts or sets the two flops, and no operation sees the input ports. -/
theorem synchronizerDelaysTheLineByTwoCycles : Obligations.SynchronizerDelaysTheLineByTwoCycles := by
  unfold Obligations.SynchronizerDelaysTheLineByTwoCycles
  refine ⟨fun _ _ => step_shiftSync, ?delay, fun _ _ => step_resetSync, ?unseen⟩
  case delay =>
    intro s t u ht hu hrt hru
    exact (step_shiftSync hu hru).2.trans (step_shiftSync ht hrt).1
  case unseen =>
    intro s t i level h
    obtain ⟨ha, hread, hphase⟩ := step_next_iff.mp h
    obtain ⟨t', ht', hsame⟩ := fsmPhase_withPins (u := (s.present i).afterBus)
      (p := (s.present { i with lineI := level }).sample.pins) rfl hphase
    rw [← State.afterBus_present_lineI] at ht'
    exact ⟨t', step_next_iff.mpr ⟨ha, hread, ht'⟩, hsame⟩

/-! ### The moves of the state code (R19) -/

/-- A wait moves on, falls back to IDLE or stays (R85). -/
theorem State.waitFor_state (s : State) (cond : Bool) (limit n : Nat) (target : Code) :
    (s.waitFor cond limit target n).state = s.state ∨ (s.waitFor cond limit target n).state = target ∨
      (s.waitFor cond limit target n).state = codeIdle := by
  rcases s.waitFor_cases cond limit target n with ⟨-, hv⟩ | ⟨-, -, hv⟩ | ⟨-, -, hv⟩ <;> simp [hv]

/-- Settles O40: the moves of each operation. -/
theorem stateMovesOnlyAlongThePath : Obligations.StateMovesOnlyAlongThePath := by
  unfold Obligations.StateMovesOnlyAlongThePath
  intro s t h hrst
  obtain ⟨v, hv, rfl⟩ := step_operation h hrst
  have hwait := s.afterBus.waitFor_state
  rcases exec_fsm_next hv with ⟨hs, rfl⟩ | ⟨hs, rfl⟩ | ⟨hs, rfl⟩ | ⟨hs, rfl⟩ | ⟨hs, rfl⟩ | ⟨hs, rfl⟩ | ⟨hs, rfl⟩ |
    ⟨hs, hbit⟩ | ⟨hs, rfl⟩ <;> simp only [hs, State.shiftSync_state]
  · -- IDLE
    split
    · next hstart => simpa using hstart
    · simp [hs]
  · -- START_LOW
    split <;> simp [hs]
  iterate 5 -- the five waits
    simpa [hs] using hwait ..
  · -- BIT_HIGH
    rcases hbit with ⟨-, -, rfl⟩ | ⟨-, -, rfl⟩ | ⟨-, hlast, rfl⟩ | ⟨-, -, rfl⟩
    · simp
    · simp [hs]
    · have hlast : s.bitcnt = 39#6 := BitVec.eq_of_toNat_eq (Nat.succ_injective hlast)
      simp [hlast]
    · simp
  · -- CHECK
    split <;> simp

/-! ### The results (R29, R30, R43) -/

/-- Settles O41: of the operations only an accepted START and a passing CHECK write a result register. -/
theorem resultsChangeOnlyByStartOrCheck : Obligations.ResultsChangeOnlyByStartOrCheck := by
  unfold Obligations.ResultsChangeOnlyByStartOrCheck
  intro s t h hrst
  obtain ⟨v, hv, rfl⟩ := step_operation h hrst
  rcases exec_fsm_next hv with ⟨hs, rfl⟩ | ⟨-, rfl⟩ | ⟨-, rfl⟩ | ⟨-, rfl⟩ | ⟨-, rfl⟩ | ⟨-, rfl⟩ | ⟨-, rfl⟩ |
    ⟨-, hbit⟩ | ⟨hs, rfl⟩
  · -- IDLE
    split
    · next hstart => exact .inr (.inl ⟨hs, hstart, rfl, rfl, rfl, rfl⟩)
    · exact .inl ⟨rfl, rfl, rfl, rfl⟩
  · -- START_LOW
    split <;> exact .inl ⟨rfl, rfl, rfl, rfl⟩
  iterate 5 -- the five waits
    exact .inl (by simp)
  · -- BIT_HIGH
    rcases hbit with ⟨-, -, rfl⟩ | ⟨-, -, rfl⟩ | ⟨-, -, rfl⟩ | ⟨-, -, rfl⟩ <;> exact .inl ⟨rfl, rfl, rfl, rfl⟩
  · -- CHECK
    split
    · next hok => exact .inr (.inr ⟨hs, hok, bytes_append s.shreg, rfl⟩)
    · exact .inl ⟨rfl, rfl, rfl, rfl⟩

end Sys2Proof.Machine
end

section
/-! Proofs of the encoding statements (spec/30_encoding.md): a table word is its four fields, decoding and encoding undo each other
field by field, a host read answers with the start of its cycle, and an invariant state always steps. -/

namespace Sys2Proof

/-! ### A table word is its fields (assumption log 1) -/

/-- A table word is its operand, padding, format bit and code, in that order. -/
theorem word_eq_fields (w : TableWord) :
    w = wordOperand w ++ wordPadding w ++ BitVec.ofBool (wordIsFsm w) ++ wordCode w := by
  have hbit : BitVec.ofBool (wordIsFsm w) = w.extractLsb' 4 1 := by
    ext k hk
    obtain rfl : k = 0 := by omega
    simp [wordIsFsm]
  rw [hbit]
  unfold wordOperand wordPadding wordCode
  rw [BitVec.extractLsb'_append_extractLsb'_eq_extractLsb' (by omega),
    BitVec.extractLsb'_append_extractLsb'_eq_extractLsb' (by omega),
    BitVec.extractLsb'_append_extractLsb'_eq_extractLsb' (by omega)]
  simp

/-- A table word is its operand and its low byte. -/
theorem wordOperand_append_lowByte (w : TableWord) : wordOperand w ++ w.extractLsb' 0 8 = w := by
  unfold wordOperand
  rw [BitVec.extractLsb'_append_extractLsb'_eq_extractLsb' (by omega)]
  simp

section Encode
variable (i : Instr)

@[simp] theorem wordCode_encode : wordCode (encode i) = i.code := wordCode_fields ..
@[simp] theorem wordIsFsm_encode : wordIsFsm (encode i) = (i.format == .fsm) := wordIsFsm_fields ..
@[simp] theorem wordPadding_encode : wordPadding (encode i) = 0#3 := wordPadding_fields ..
@[simp] theorem wordOperand_encode : wordOperand (encode i) = i.operand := wordOperand_fields ..

end Encode

/-- Only the format, the code and the operand of an instruction enter its word. -/
theorem encode_eq_fields {i : Instr} {f : Bool} {c : BitVec 4} {d : Word} (hformat : (i.format == .fsm) = f)
    (hcode : i.code = c) (hoperand : i.operand = d) : encode i = d ++ 0#3 ++ BitVec.ofBool f ++ c := by
  subst hformat hcode hoperand
  rfl

/-! ### Which words decode, and to what -/

/-- The instruction that the code and the operand of a word select in the opcode map of its format (R54, R56). -/
def wordInstr (w : TableWord) : Instr :=
  if wordIsFsm w then decodeFsm (wordCode w) else decodeBus (wordCode w) (wordOperand w)

/-- Exactly the well-formed words decode, each to the instruction of its fields. -/
theorem decodeWord_eq_ok_iff (w : TableWord) (i : Instr) :
    decodeWord w = .ok i ↔ TableWordWf w = true ∧ wordInstr w = i := by
  unfold decodeWord TableWordWf wordInstr
  by_cases hpad : wordPadding w = 0#3
  · cases wordOperandAllowed w <;> cases wordIsFsm w <;> simp [hpad]
  · simp [hpad]

/-! ### Decoding what the encoder wrote -/

/-- An instruction that is not a bus write has no operand (R53). -/
theorem Instr.operand_of_not_write (i : Instr) (h : ¬ (i.format = .bus ∧ i.code.getLsbD 3 = true)) : i.operand = 0#32 := by
  revert h
  cases i <;> simp [Instr.format, Instr.code, Instr.operand]

/-- The encoder writes well-formed words only: a write may carry its operand, any other instruction has none. -/
theorem encode_wf (i : Instr) : TableWordWf (encode i) = true := by
  by_cases hwrite : i.format = .bus ∧ i.code.getLsbD 3 = true
  · exact Laws.EncodesWellFormed.of_write i (by rw [hwrite.1]; rfl) hwrite.2
  · simp [TableWordWf, wordOperandAllowed, i.operand_of_not_write hwrite]

/-- An FSM code with free bits reads them back from any value of them (R56). -/
theorem decodeFsm_freeBits :
    (∀ low : BitVec 1, decodeFsm (0b101#3 ++ low) = .fsmUnused10To11 low) ∧
    (∀ low : BitVec 2, decodeFsm (0b11#2 ++ low) = .fsmUnused12To15 low) := by decide

/-- The fields of the encoded word select the instruction: each row of the two maps is read back (R54, R56). -/
theorem wordInstr_encode (i : Instr) : wordInstr (encode i) = i := by
  unfold wordInstr
  rw [wordIsFsm_encode, wordCode_encode, wordOperand_encode]
  cases i
  case fsmUnused10To11 low => exact decodeFsm_freeBits.1 low
  case fsmUnused12To15 low => exact decodeFsm_freeBits.2 low
  all_goals rfl

/-- Decoding the encoded word gives the instruction. -/
theorem decodeWord_encode (i : Instr) : decodeWord (encode i) = .ok i :=
  (decodeWord_eq_ok_iff _ _).mpr ⟨encode_wf i, wordInstr_encode i⟩

/-- The encoded bytes are those of the encoded word: all five on a write, else the low one, above which the word is 0. -/
theorem decodeBytes_encodeBytes (i : Instr) : decodeBytes (encodeBytes i) = decodeWord (encode i) := by
  unfold encodeBytes
  by_cases hwrite : i.format = .bus ∧ i.code.getLsbD 3 = true
  · simp only [if_pos hwrite]
    exact congrArg decodeWord (Machine.bytes_append (encode i))
  · have hzero : wordOperand (encode i) = 0#32 := (wordOperand_encode i).trans (i.operand_of_not_write hwrite)
    have hlow : 0#32 ++ (encode i).extractLsb' 0 8 = encode i := by
      rw [← hzero]
      exact wordOperand_append_lowByte (encode i)
    simp only [if_neg hwrite]
    exact congrArg decodeWord hlow

/-- Settles O1: the encoded word is well-formed and its fields select the instruction; the bytes hold the same word. -/
theorem encodedInstructionDecodesToItself : Obligations.EncodedInstructionDecodesToItself := by
  unfold Obligations.EncodedInstructionDecodesToItself
  intro i
  exact ⟨decodeWord_encode i, (decodeBytes_encodeBytes i).trans (decodeWord_encode i)⟩

/-! ### Encoding what the decoder read -/

/-- A decoded state code is an FSM operation with that code and no operand (R55, R56). -/
theorem decodeFsm_fields :
    ∀ c : Code, ((decodeFsm c).format == .fsm) = true ∧ (decodeFsm c).code = c ∧ (decodeFsm c).operand = 0#32 := by
  decide

/-- A decoded transaction is a bus instruction with that code, and with the write data exactly when it is a write (R52 to R54). -/
theorem decodeBus_fields (c : Txn) (d : Word) :
    ((decodeBus c d).format == .fsm) = false ∧ (decodeBus c d).code = c ∧
      (decodeBus c d).operand = if c.getLsbD 3 then d else 0#32 := by
  rcases decodeBus_cases c d with ⟨hd, rfl⟩ | ⟨hd, rfl⟩ | ⟨hd, rfl⟩ | ⟨hd, rfl⟩ | ⟨hd, rfl⟩ | ⟨hd, rfl⟩ | ⟨hd, rfl⟩ |
    ⟨hd, rfl⟩ | ⟨hd, rfl⟩ | ⟨hd, rfl⟩ | ⟨hd, rfl⟩ | ⟨hd, rfl⟩ | ⟨hd, rfl⟩ | ⟨hd, rfl⟩ | ⟨hd, rfl⟩ | ⟨hd, rfl⟩ <;>
    rw [hd] <;> exact ⟨rfl, rfl, rfl⟩

/-- A word that may carry no operand carries none (R53). -/
theorem wordOperand_of_allowed {w : TableWord} (h : wordOperandAllowed w = true) :
    (if !wordIsFsm w && (wordCode w).getLsbD 3 then wordOperand w else 0#32) = wordOperand w := by
  unfold wordOperandAllowed at h
  split
  · rfl
  · next hno =>
    rw [Bool.eq_false_of_not_eq_true hno, Bool.false_or, beq_iff_eq] at h
    exact h.symm

/-- The encoder writes the fields of a well-formed word back. -/
theorem encode_wordInstr {w : TableWord} (h : TableWordWf w = true) : encode (wordInstr w) = w := by
  unfold TableWordWf at h
  rw [Bool.and_eq_true, beq_iff_eq] at h
  obtain ⟨hpad, hallowed⟩ := h
  have hoperand := wordOperand_of_allowed hallowed
  conv_rhs => rw [word_eq_fields w, hpad]
  unfold wordInstr
  cases hfsm : wordIsFsm w with
  | true =>
    obtain ⟨hformat, hcode, hzero⟩ := decodeFsm_fields (wordCode w)
    exact encode_eq_fields hformat hcode (hzero.trans (by simpa [hfsm] using hoperand))
  | false =>
    obtain ⟨hformat, hcode, hdata⟩ := decodeBus_fields (wordCode w) (wordOperand w)
    exact encode_eq_fields hformat hcode (hdata.trans (by simpa [hfsm] using hoperand))

/-- Settles O2: a word that decodes is well-formed, and its instruction is that of its fields. -/
theorem decodedWordIsItsEncoding : Obligations.DecodedWordIsItsEncoding := by
  unfold Obligations.DecodedWordIsItsEncoding
  intro w i h
  obtain ⟨hwf, rfl⟩ := (decodeWord_eq_ok_iff w i).mp h
  exact encode_wordInstr hwf

/-- Settles O3: the listed words are evaluated by the two maps. -/
theorem mapWordsDecodeAsListed : Obligations.MapWordsDecodeAsListed := by
  unfold Obligations.MapWordsDecodeAsListed
  refine ⟨fun d => ⟨rfl, rfl, rfl, rfl, rfl, rfl, rfl, rfl⟩, ?fsmCodes⟩
  case fsmCodes => decide

end Sys2Proof

namespace Sys2Proof.Machine

/-! ### Steps that answer a next state (R62, R113) -/

/-- Every operation of the nine states answers a next state: only the unused codes fault (R113). -/
theorem exec_fsm_answers {c : Code} (hlegal : c.toNat ≤ 8) (u : State) : ∃ v, exec (decodeFsm c) u = .next v := by
  rcases decodeFsm_cases c with ⟨-, hd⟩ | ⟨-, hd⟩ | ⟨-, hd⟩ | ⟨-, hd⟩ | ⟨-, hd⟩ | ⟨-, hd⟩ | ⟨-, hd⟩ | ⟨-, hd⟩ |
    ⟨-, hd⟩ | ⟨hunused, -⟩
  case inr.inr.inr.inr.inr.inr.inr.inr.inr => omega
  all_goals
    rw [hd]
    exact ⟨_, rfl⟩

/-- An accepted configuration with a used state code and ERR not 3 steps to a next state. -/
theorem step_answers {s : State} (ha : s.Accepted) (hlegal : s.LegalCode) (he : s.err ≠ errReserved) :
    ∃ t, step s = .next t := by
  rw [step_eq s ha he]
  cases hrst : s.nextInput.rst with
  | true => exact ⟨_, fsmPhase_of_rst s.afterBus hrst⟩
  | false =>
    obtain ⟨v, hv⟩ := exec_fsm_answers hlegal s.afterBus
    exact ⟨_, fsmPhase_of_exec hrst hv⟩

/-- Settles O51: the invariant gives a used state code and an ERR that is not 3. -/
theorem invariantStatesAlwaysStep : Obligations.InvariantStatesAlwaysStep := by
  unfold Obligations.InvariantStatesAlwaysStep
  intro s h ha
  obtain ⟨hlegal, -, ⟨-, herr, -⟩, -, -, -⟩ := h
  exact step_answers ha hlegal herr

/-! ### What a read answers (R46, R65) -/

/-- After a step `bus_rdata` is what its cycle reads from the registers before the step (R65). -/
theorem step_busRdata {s t : State} (h : step s = .next t) : t.busRdata = s.busReadValue s.nextInput := by
  rcases step_cases h with ⟨-, rfl⟩ | ⟨-, v, hv, rfl⟩
  · rfl
  · exact (exec_fsm_sameSurroundings hv).busRdata

/-- Presenting a host line changes no register. -/
theorem State.readReg_withAsm (a : Asm) (s : State) (r : Reg) : (s.withAsm a).readReg r = s.readReg r := by
  cases r <;> rfl

/-- A presented `rd REG` reads that register (R64). -/
theorem State.busReadValue_withAsm_rd (s : State) (r : Reg) :
    (s.withAsm (.rd r)).busReadValue (s.withAsm (.rd r)).nextInput = s.readReg r := by
  have hread : (s.withAsm (.rd r)).busReadValue (s.withAsm (.rd r)).nextInput =
      (s.withAsm (.rd r)).readReg (regOf r.idx) := rfl
  rw [hread, regOf_idx, State.readReg_withAsm]

/-- Settles O36: the step of the line answers, with `bus_rdata` what the line reads. -/
theorem hostReadSeesTheStartOfTheCycle : Obligations.HostReadSeesTheStartOfTheCycle := by
  unfold Obligations.HostReadSeesTheStartOfTheCycle
  intro s r ha hlegal herr
  obtain ⟨t, ht⟩ := step_answers (s := s.withAsm (.rd r)) ha hlegal herr
  exact ⟨t, ht, (step_busRdata ht).trans (s.busReadValue_withAsm_rd r)⟩

end Sys2Proof.Machine
end

section
/-! Proofs of the host interface statements (spec/40_host_interface.md): what the host reads and the status word of a read, what a bus
transaction leaves unchanged, and which transactions have an effect on the machine. -/

namespace Sys2Proof.Machine

/-! ### Register words as numbers (R26, R29, R44) -/

/-- Concatenation puts the first word above the second. -/
theorem toNat_append_eq_add {m n : Nat} (x : BitVec m) (y : BitVec n) :
    (x ++ y).toNat = x.toNat * 2 ^ n + y.toNat := by
  rw [BitVec.toNat_append, ← Nat.shiftLeft_add_eq_or_of_lt y.isLt, Nat.shiftLeft_eq]

/-- The STATUS word is the sum of its fields at the places R26 gives them. -/
theorem State.statusWord_eq_ofNat (s : State) :
    s.statusWord = BitVec.ofNat 32 (s.state.toNat * 256 + s.err.toNat * 8 + s.valid.toNat * 4 + s.done.toNat * 2 +
      s.busy.toNat) := by
  apply BitVec.eq_of_toNat_eq
  simp only [State.statusWord, BitVec.toNat_setWidth, toNat_append_eq_add, BitVec.toNat_ofBool, BitVec.toNat_ofNat]
  congr 1
  omega

/-- With a read in flight STATUS shows the state code and BUSY (R69). -/
theorem State.InFlight.statusWord_eq {s : State} (h : s.InFlight) :
    s.statusWord = BitVec.ofNat 32 (1 + 256 * s.state.toNat) := by
  rw [s.statusWord_eq_ofNat, h.busy, h.done, h.valid, h.err]
  congr 1
  simp
  omega

/-- The ERR field of the STATUS word is ERR (R26). -/
theorem State.statusWord_err (s : State) : s.statusWord.extractLsb' 3 2 = s.err := by
  apply BitVec.eq_of_toNat_eq
  have herr := s.err.isLt
  have hstate := s.state.isLt
  have hvalid := s.valid.toNat_lt
  have hdone := s.done.toNat_lt
  have hbusy := s.busy.toNat_lt
  rw [s.statusWord_eq_ofNat, BitVec.extractLsb'_toNat, BitVec.toNat_ofNat, Nat.shiftRight_eq_div_pow]
  omega

/-- Bit 2 of the STATUS word is VALID (R26). -/
theorem State.statusWord_valid (s : State) : s.statusWord.getLsbD 2 = s.valid := by
  simp only [State.statusWord, BitVec.getLsbD_setWidth, BitVec.getLsbD_append]
  simp

/-- READING shows the humidity in its lower half and the temperature in its upper (R29). -/
theorem append_halves (temp hum : Half) :
    (temp ++ hum).extractLsb' 0 16 = hum ∧ (temp ++ hum).extractLsb' 16 16 = temp := by
  constructor
  · exact (BitVec.extractLsb'_append_eq_of_add_le (by omega)).trans (by simp)
  · exact (BitVec.extractLsb'_append_eq_of_le (by omega)).trans (by simp)

/-! ### What a completed read shows (R69, R84) -/

/-- The host's table reads ERR and, with ERR = 0, VALID and the two values of READING (R84). -/
theorem State.readResult_eq (s : State) :
    readResult (s.readReg .status) (s.readReg .reading) =
      if s.err = 0#2 then (if s.valid then some (.ok s.hum s.temp) else none)
      else if s.err = 1#2 then some .timeout
      else if s.err = 2#2 then some .checksumFailed
      else none := by
  have herr : s.err = 0#2 ∨ s.err = 1#2 ∨ s.err = 2#2 ∨ s.err = 3#2 := by
    generalize s.err = e
    revert e
    decide
  obtain ⟨hhum, htemp⟩ := append_halves s.temp s.hum
  unfold readResult
  rw [State.readReg_status, State.readReg_reading, s.statusWord_err, s.statusWord_valid, hhum, htemp]
  rcases herr with h | h | h | h <;> rw [h] <;> rfl

/-- ERR is one of the three codes that R115 lists for use. -/
theorem State.ErrValidLaw.err_cases {s : State} (h : s.ErrValidLaw) : s.err = 0#2 ∨ s.err = 1#2 ∨ s.err = 2#2 := by
  obtain ⟨-, hne, -⟩ := h
  revert hne
  generalize s.err = e
  revert e
  decide

/-- With DONE the invariant makes VALID the test of ERR = 0 (R28). -/
theorem State.ErrValidLaw.valid_iff {s : State} (h : s.ErrValidLaw) (hdone : s.done = true) :
    s.valid = true ↔ s.err = 0#2 := by
  obtain ⟨hvalid, -, -⟩ := h
  simpa [hdone] using hvalid

/-- Settles O38: the three rows of the table, of which the first needs the VALID that the invariant gives. -/
theorem readContractDecodesTheOutcome : Obligations.ReadContractDecodesTheOutcome := by
  unfold Obligations.ReadContractDecodesTheOutcome
  intro s h hdone
  obtain ⟨-, -, hlaw, -, -, -⟩ := h
  have hvalid := hlaw.valid_iff hdone
  rw [s.readResult_eq]
  refine ⟨hvalid, ?ok, ?timeout, ?checksum, hlaw.err_cases⟩
  case ok => intro he; rw [if_pos he, if_pos (hvalid.mpr he)]
  case timeout => intro he; rw [he]; rfl
  case checksum => intro he; rw [he]; rfl

/-- Settles O39: in IDLE the flags are those of no read or of one of the three outcomes, elsewhere those of a read in flight. -/
theorem statusShowsOnlyLegalValues : Obligations.StatusShowsOnlyLegalValues := by
  unfold Obligations.StatusShowsOnlyLegalValues
  intro s h
  rw [State.readReg_status]
  by_cases hidle : s.state = codeIdle
  · rw [s.statusWord_eq_ofNat]
    obtain ⟨-, ⟨hbusyIff, -⟩, hlaw, -, -, -⟩ := h
    have hbusy : s.busy = false := by simpa [hidle] using hbusyIff
    cases hdone : s.done with
    | false =>
      obtain ⟨hvalidIff, -, hnone⟩ := hlaw
      have hvalid : s.valid = false := by simpa [hdone] using hvalidIff
      left
      rw [hidle, hbusy, hvalid, hnone hdone]
      rfl
    | true =>
      have hvalid : s.valid = decide (s.err = 0#2) := by
        rw [Bool.eq_iff_iff, hlaw.valid_iff hdone, decide_eq_true_eq]
      rw [hidle, hbusy, hvalid]
      rcases hlaw.err_cases with he | he | he <;> rw [he] <;> decide
  · have hflight := h.inFlight hidle
    obtain ⟨hlegal, -, -, -, -, -⟩ := h
    have hpos : s.state.toNat ≠ 0 := fun h0 => hidle (BitVec.eq_of_toNat_eq h0)
    exact .inr (.inr (.inr (.inr ⟨hflight.busy, Nat.one_le_iff_ne_zero.mpr hpos, hlegal, hflight.statusWord_eq⟩)))

/-! ### The transactions one by one (R68 to R83) -/

/-- Settles O8: the reserved words are rows of the map, and their registers read 0. -/
theorem reservedWordsReadZero : Obligations.ReservedWordsReadZero := by
  unfold Obligations.ReservedWordsReadZero
  exact fun s d => ⟨⟨rfl, rfl⟩, ⟨rfl, rfl⟩, ⟨rfl, rfl⟩⟩

/-- Settles O9: READING is its two halves and RAW1 its byte, as numbers. -/
theorem registerReadsGiveTheirValue : Obligations.RegisterReadsGiveTheirValue := by
  unfold Obligations.RegisterReadsGiveTheirValue
  intro s
  have hreading : s.temp ++ s.hum = BitVec.ofNat 32 (s.temp.toNat * 65536 + s.hum.toNat) := by
    calc s.temp ++ s.hum = BitVec.ofNat 32 (s.temp ++ s.hum).toNat := by simp
      _ = BitVec.ofNat 32 (s.temp.toNat * 65536 + s.hum.toNat) := congrArg _ (toNat_append_eq_add ..)
  have hraw1 : s.raw1.setWidth 32 = BitVec.ofNat 32 s.raw1.toNat := (BitVec.ofNat_toNat ..).symm
  rw [← hreading, ← hraw1]
  exact ⟨rfl, rfl, rfl, rfl⟩

/-- Settles O10: with ERR not 3 the transaction answers the STATUS word, which is the sum of its fields. -/
theorem statusReadGivesTheStatusWord : Obligations.StatusReadGivesTheStatusWord := by
  unfold Obligations.StatusReadGivesTheStatusWord
  intro s herr
  rw [← s.statusWord_eq_ofNat]
  exact if_neg herr

/-- Settles O12: the seven rows of the map, whose host writes are ignored. -/
theorem ignoredWritesChangeNothing : Obligations.IgnoredWritesChangeNothing := by
  unfold Obligations.IgnoredWritesChangeNothing
  exact fun s d => ⟨⟨rfl, rfl⟩, ⟨rfl, rfl⟩, ⟨rfl, rfl⟩, ⟨rfl, rfl⟩, ⟨rfl, rfl⟩, ⟨rfl, rfl⟩, ⟨rfl, rfl⟩⟩

/-- Settles O13: a host write of CTRL gives `start_req` and nothing else. -/
theorem ctrlWriteRaisesStartRequest : Obligations.CtrlWriteRaisesStartRequest := by
  unfold Obligations.CtrlWriteRaisesStartRequest
  exact fun s d => rfl

/-! ### The frame of the transactions (R43, R46) -/

/-- The state with another `start_req` and another `bus_rdata`: the two elements that a transaction gives (R65, R76). -/
def State.withReply (req : Bool) (value : Word) (s : State) : State := { s with startReq := req, busRdata := value }

/-- No host register shows `start_req` or `bus_rdata` (R44). -/
@[simp] theorem State.readReg_withReply (req : Bool) (value : Word) (s : State) (r : Reg) :
    (s.withReply req value).readReg r = s.readReg r := by
  cases r <;> rfl

/-- A transaction word is its write bit and its register index (R52). -/
theorem txnOf_fields : ∀ c : Txn, txnOf (c.getLsbD 3) (c.extractLsb' 0 3) = c := by decide

/-- A bus instruction is the transaction of its write bit, its register index and its operand (R52 to R54). -/
theorem eq_decodeBus_of_bus {i : Instr} (hbus : i.format = .bus) :
    i = decodeBus (txnOf (i.code.getLsbD 3) (i.code.extractLsb' 0 3)) i.operand := by
  have h := wordInstr_encode i
  unfold wordInstr at h
  rw [wordIsFsm_encode, hbus, wordCode_encode, wordOperand_encode] at h
  rw [txnOf_fields]
  exact h.symm

/-- Everything a bus transaction can do when it answers a next state: a read drives `bus_rdata` (R65), WR_CTRL gives
`start_req` (R76), any other write does nothing (R66). -/
theorem exec_bus_next {i : Instr} {s t : State} (hbus : i.format = .bus) (h : exec i s = .next t) :
    (i.code.getLsbD 3 = false ∧ ∃ v, t = s.withReply s.startReq v) ∨
    (∃ d req, i = .wrCtrl d ∧ t = s.withReply req s.busRdata) ∨
    t = s := by
  have hi := eq_decodeBus_of_bus hbus
  generalize i.code.getLsbD 3 = we at hi ⊢
  generalize i.code.extractLsb' 0 3 = idx at hi
  rw [hi] at h
  cases we with
  | false =>
    rw [exec_read] at h
    split at h
    · cases h
    · cases h
      exact .inl ⟨rfl, _, rfl⟩
  | true =>
    rw [exec_write] at h
    cases h
    by_cases hidx : idx = 0#3
    · subst hidx
      exact .inr (.inl ⟨_, _, hi, rfl⟩)
    · rcases idx_cases idx with h | h | h | h | h | h | h | h <;> subst h
      case inl => exact absurd rfl hidx
      all_goals exact .inr (.inr rfl)

/-- Settles O14: each of the three things a transaction can do keeps what the statement lists. -/
theorem busTransactionsKeepTheState : Obligations.BusTransactionsKeepTheState := by
  unfold Obligations.BusTransactionsKeepTheState
  intro i s t hbus h
  rcases exec_bus_next hbus h with ⟨hread, v, rfl⟩ | ⟨d, req, hctrl, rfl⟩ | rfl
  · exact ⟨rfl, fun _ => rfl, fun hwrite => absurd (hread.symm.trans hwrite) (by decide), s.readReg_withReply _ _⟩
  · exact ⟨rfl, fun hne => absurd hctrl (hne d), fun _ => rfl, s.readReg_withReply _ _⟩
  · exact ⟨rfl, fun _ => rfl, fun _ => rfl, fun _ => rfl⟩

/-! ### A START in IDLE (R76, R86) -/

/-- A START is a write without `rst` (R76). -/
theorem Input.isStart_ports {i : Input} (h : i.isStart = true) : i.rst = false ∧ i.busWe = true := by
  simp only [Input.isStart, Bool.and_eq_true, Bool.not_eq_true'] at h
  obtain ⟨⟨⟨⟨-, hwe⟩, -⟩, -⟩, hrst⟩ := h
  exact ⟨hrst, hwe⟩

/-- A write reads no STATUS (R65). -/
theorem Input.readsStatus_of_write {i : Input} (h : i.busWe = true) : i.readsStatus = false := by
  simp [Input.readsStatus, h]

/-- A write leaves `bus_rdata` at 0 (R65). -/
theorem State.busReadValue_of_write (s : State) {i : Input} (h : i.busWe = true) : s.busReadValue i = 0#32 := by
  simp [State.busReadValue, h]

/-- Outside START_LOW the line is released, and the ports of the cycle are its inputs (R31, R33). -/
theorem State.afterBus_released {s : State} (h : s.state ≠ codeStartLow) :
    s.afterBus =
      { s with
        pins := s.nextInput, startReq := s.nextInput.isStart, driveLowO := false,
        busRdata := s.busReadValue s.nextInput, inputs := s.inputs.tail, cycle := s.cycle + 1 } := by
  have hdrive : s.driveLow s.nextInput.rst = false := by
    rw [s.driveLow_eq_decide]
    exact decide_eq_false fun hlow => h hlow.1
  simp only [State.afterBus, State.sample, hdrive, padLevel_released]

/-- A START in IDLE is accepted, and then the clock edge comes (R86). -/
theorem step_start {s : State} (ha : s.Accepted) (hidle : s.state = 0#4) (hstart : s.nextInput.isStart = true) :
    step s = .next s.afterBus.acceptStart.shiftSync := by
  obtain ⟨hrst, hwe⟩ := Input.isStart_ports hstart
  have hexec : exec (decodeFsm s.state) s.afterBus = .next s.afterBus.acceptStart := by
    rw [hidle]
    exact congrArg Host.Outcome.next (if_pos hstart)
  refine step_next_iff.mpr ⟨ha, ?_, fsmPhase_of_exec hrst hexec⟩
  rw [Input.readsStatus_of_write hwe]
  simp

/-- Settles O32: the accepted START writes the elements of R86; the ports are the inputs, since IDLE does not drive the line. -/
theorem startIsAcceptedInIdle : Obligations.StartIsAcceptedInIdle := by
  unfold Obligations.StartIsAcceptedInIdle
  intro s ha hidle hstart
  obtain ⟨-, hwe⟩ := Input.isStart_ports hstart
  have hflight : s.afterBus.acceptStart.shiftSync.InFlight := ⟨rfl, rfl, rfl, rfl, rfl, rfl, rfl, rfl⟩
  refine ⟨_, step_start ha hidle hstart, ?next, hflight.statusWord_eq, by simp, rfl, rfl⟩
  rw [State.afterBus_released (by simp [hidle]), hstart, s.busReadValue_of_write hwe]
  rfl

/-! ### Which transactions the machine sees (R65 to R67, R133) -/

/-- A wait sees neither `start_req` nor `bus_rdata`. -/
theorem State.waitFor_withReply (s : State) (req : Bool) (value : Word) (cond : Bool) (limit n : Nat) (target : Code) :
    (s.withReply req value).waitFor cond limit target n = (s.waitFor cond limit target n).withReply req value := by
  unfold State.waitFor
  simp only [apply_ite (State.withReply req value)]
  rfl

/-- But for the `start_req` of IDLE, no operation sees the answer of the transaction. -/
theorem exec_fsm_withReply {c : Code} {u v : State} {req : Bool} (value : Word) (hreq : c = codeIdle → req = u.startReq)
    (h : exec (decodeFsm c) u = .next v) : exec (decodeFsm c) (u.withReply req value) = .next (v.withReply req value) := by
  rcases decodeFsm_cases c with ⟨hc, hd⟩ | ⟨-, hd⟩ | ⟨-, hd⟩ | ⟨-, hd⟩ | ⟨-, hd⟩ | ⟨-, hd⟩ | ⟨-, hd⟩ |
    ⟨-, hd⟩ | ⟨-, hd⟩ | ⟨-, hd | ⟨l, hd⟩ | ⟨l, hd⟩⟩ <;> rw [hd] at h ⊢ <;> cases h
  · -- IDLE
    simp only [hreq hc, apply_ite (State.withReply u.startReq value)]; rfl
  · -- START_LOW
    simp only [apply_ite (State.withReply req value)]; rfl
  iterate 5 -- the five waits
    · rw [← State.waitFor_withReply]; rfl
  · -- BIT_HIGH
    simp only [apply_ite (State.withReply req value)]; rfl
  · -- CHECK
    simp only [apply_ite (State.withReply req value)]; rfl

/-- The ports without a transaction (R52). -/
def Input.withoutTransaction (i : Input) : Input := { i with busSel := false }

/-- The state with no transaction on its ports and the answer of none (R67). -/
def State.withoutTransaction (s : State) : State :=
  (s.withPins s.pins.withoutTransaction).withReply false 0#32

/-- A cycle whose transaction is withdrawn differs before its FSM phase in the ports and the answer only. -/
theorem State.afterBus_present_withoutTransaction (s : State) (i : Input) :
    (s.present { i with busSel := false }).afterBus = (s.present i).afterBus.withoutTransaction := rfl

/-- Unless it takes a START in IDLE, an operation does not see the transaction. -/
theorem exec_fsm_withoutTransaction {c : Code} {u v : State} (hseen : c = codeIdle → u.startReq = false)
    (h : exec (decodeFsm c) u = .next v) : exec (decodeFsm c) u.withoutTransaction = .next v.withoutTransaction := by
  unfold State.withoutTransaction
  rw [(exec_fsm_sameSurroundings h).pins]
  exact exec_fsm_withReply 0#32 (fun hc => (hseen hc).symm) (exec_fsm_withPins u.pins.withoutTransaction h)

/-- Unless it takes a START in IDLE, the FSM phase does not see the transaction. -/
theorem fsmPhase_withoutTransaction {u t : State} (hseen : u.state = codeIdle → u.startReq = false)
    (h : fsmPhase u = .next t) : fsmPhase u.withoutTransaction = .next t.withoutTransaction := by
  rcases fsmPhase_next h with ⟨hrst, rfl⟩ | ⟨hrst, v, hv, rfl⟩
  · exact fsmPhase_of_rst _ hrst
  · exact fsmPhase_of_exec (u := u.withoutTransaction) hrst (exec_fsm_withoutTransaction hseen hv)

/-- After a step `start_req` tells whether its cycle had a START (R76). -/
theorem step_startReq {s t : State} (h : step s = .next t) : t.startReq = s.nextInput.isStart := by
  rcases step_cases h with ⟨-, rfl⟩ | ⟨-, v, hv, rfl⟩
  · rfl
  · exact (exec_fsm_sameSurroundings hv).startReq

/-- Unless it takes a START in IDLE, a step is the one without its transaction. -/
theorem step_present_withoutTransaction {s t : State} {i : Input} (hseen : s.state = codeIdle → i.isStart = false)
    (h : step (s.present i) = .next t) : step (s.present { i with busSel := false }) = .next t.withoutTransaction := by
  obtain ⟨ha, -, hphase⟩ := step_next_iff.mp h
  refine step_next_iff.mpr ⟨ha, by simp [Input.readsStatus], ?_⟩
  rw [State.afterBus_present_withoutTransaction]
  exact fsmPhase_withoutTransaction hseen hphase

/-- Settles O33: outside IDLE the step is the one without the START, and as a write the START reads nothing. -/
theorem startIsIgnoredWhileBusy : Obligations.StartIsIgnoredWhileBusy := by
  unfold Obligations.StartIsIgnoredWhileBusy
  intro s t i hstart hbusy h
  have hreq : t.startReq = true := (step_startReq h).trans hstart
  have hread : t.busRdata = 0#32 := (step_busRdata h).trans (State.busReadValue_of_write _ (Input.isStart_ports hstart).2)
  refine ⟨_, step_present_withoutTransaction (fun hidle => absurd hidle hbusy) h, ?_⟩
  rw [← hreq, State.withoutTransaction, ← hread]
  rfl

/-- Settles O34: without a START the step is the one without the transaction, and `start_req` is 0 in both. -/
theorem onlyStartHasAnEffect : Obligations.OnlyStartHasAnEffect := by
  unfold Obligations.OnlyStartHasAnEffect
  intro s t i hno h
  have hreq : t.startReq = false := (step_startReq h).trans hno
  have hread : t.busRdata = s.busReadValue i := by simpa using step_busRdata h
  refine ⟨hread, _, step_present_withoutTransaction (fun _ => hno) h, ?_⟩
  rw [State.withoutTransaction, ← hreq]
  rfl

end Sys2Proof.Machine
end

section
/-! Proofs of the handshake statements (spec/41_handshake.md): what the operations do and leave unchanged, IDLE without a START, and
runs through the start pulse and the handshake over any line. -/

namespace Sys2Proof.Machine

/-! ### The wait template (R85) -/

/-- A wait at its limit without its condition completes with TIMEOUT. -/
theorem State.waitFor_timeout {limit : Nat} {s : State} (h : limit ≤ s.tcnt) (target : Code) (n : Nat) :
    s.waitFor false limit target n = s.complete errTimeout := if_pos h

/-- A wait below its limit without its condition goes on counting. -/
theorem State.waitFor_tick {limit : Nat} {s : State} (h : s.tcnt < limit) (target : Code) (n : Nat) :
    s.waitFor false limit target n = s.tick := if_neg (Nat.not_le_of_lt h)

/-- Settles O26: the three branches of the wait template. -/
theorem awaitedEdgeBeatsTheTimeout : Obligations.AwaitedEdgeBeatsTheTimeout := by
  unfold Obligations.AwaitedEdgeBeatsTheTimeout
  intro cond limit n target s
  refine ⟨?edge, ?timeout, ?tick⟩
  case edge => rintro rfl; exact s.waitFor_true limit target n
  case timeout => rintro rfl h; exact State.waitFor_timeout h target n
  case tick => rintro rfl h; exact State.waitFor_tick h target n

/-- The wait template with its condition as a proposition. -/
theorem State.waitFor_eq_ite (s : State) {cond : Bool} {p : Prop} [Decidable p] (hp : cond = true ↔ p) (limit : Nat)
    (target : Code) (n : Nat) :
    s.waitFor cond limit target n =
      if p then s.goto target n else if limit ≤ s.tcnt then s.complete errTimeout else s.tick :=
  if_congr hp rfl rfl

/-! ### The operations (R86 to R91) -/

/-- Settles O15: the accepted START writes the elements of R86. -/
theorem idleOperation : Obligations.IdleOperation := by
  unfold Obligations.IdleOperation
  exact fun s => rfl

/-- Settles O16: the window is `T_START_US * CLK_PER_US` (R8). -/
theorem startLowOperation : Obligations.StartLowOperation := by
  unfold Obligations.StartLowOperation
  exact fun s => rfl

/-- Settles O17: each operation is a wait on `line_s`, for a rising or for a falling edge. -/
theorem handshakeOperations : Obligations.HandshakeOperations := by
  unfold Obligations.HandshakeOperations
  intro s
  have rising := s.waitFor_eq_ite (cond := s.lineS) Iff.rfl s.params.tHsCyc
  have falling := s.waitFor_eq_ite (cond := !s.lineS) (p := s.lineS = false) (by simp) s.params.tHsCyc
  exact ⟨congrArg Host.Outcome.next (rising ..), congrArg Host.Outcome.next (falling ..),
    congrArg Host.Outcome.next (rising ..), congrArg Host.Outcome.next (falling ..)⟩

/-! ### The frame of the operations (R86, R98, R104, R118) -/

/-- An FSM instruction is the operation of its code (R55, R56). -/
theorem eq_decodeFsm_of_fsm {i : Instr} (hfsm : i.format = .fsm) : i = decodeFsm i.code := by
  have h := wordInstr_encode i
  unfold wordInstr at h
  rw [wordIsFsm_encode, hfsm, wordCode_encode] at h
  exact h.symm

/-- Only code 0 selects IDLE (R56). -/
theorem eq_codeIdle_of_decodeFsm : ∀ c : Code, decodeFsm c = .idle → c = codeIdle := by decide

/-- A wait moves to a state code or ends the read. -/
theorem State.waitFor_effect (s : State) (cond : Bool) (limit n : Nat) (target : Code) :
    (∃ c' n', s.waitFor cond limit target n = s.goto c' n') ∨ ∃ e, s.waitFor cond limit target n = s.complete e := by
  rcases s.waitFor_cases cond limit target n with ⟨-, hv⟩ | ⟨-, -, hv⟩ | ⟨-, -, hv⟩
  · exact .inl ⟨_, _, hv⟩
  · exact .inr ⟨_, hv⟩
  · exact .inl ⟨_, _, hv⟩

/-- The five effects of the FSM operations: a move, an accepted START, a read that ends with an error, a received bit, a posted
result. -/
theorem exec_fsm_effect {c : Code} {u v : State} (h : exec (decodeFsm c) u = .next v) :
    (∃ c' n, v = u.goto c' n) ∨
    (c = codeIdle ∧ u.startReq = true ∧ v = u.acceptStart) ∨
    (c ≠ codeIdle ∧ ∃ e, v = u.complete e) ∨
    (c = codeBitHigh ∧ u.lineS = false ∧ ∃ b c' n, v = (u.shiftBit b).goto c' n) ∨
    (c = codeCheck ∧ frameOk u.shreg = true ∧ v = u.postResult.complete errNone) := by
  rcases exec_fsm_next h with ⟨hc, rfl⟩ | ⟨-, rfl⟩ | ⟨hc, rfl⟩ | ⟨hc, rfl⟩ | ⟨hc, rfl⟩ | ⟨hc, rfl⟩ | ⟨hc, rfl⟩ |
    ⟨hc, hbit⟩ | ⟨hc, rfl⟩
  · -- IDLE
    split
    · next hstart => exact .inr (.inl ⟨hc, hstart, rfl⟩)
    · exact .inl ⟨u.state, u.tcnt, rfl⟩
  · -- START_LOW
    split
    · exact .inl ⟨_, _, rfl⟩
    · exact .inl ⟨_, _, u.tick_eq_goto⟩
  iterate 5 -- the five waits
    exact (u.waitFor_effect ..).imp_right fun hend => .inr (.inl ⟨by simp [hc], hend⟩)
  · -- BIT_HIGH
    rcases hbit with ⟨-, -, rfl⟩ | ⟨-, -, rfl⟩ | ⟨hlow, -, rfl⟩ | ⟨hlow, -, rfl⟩
    · exact .inr (.inr (.inl ⟨by simp [hc], _, rfl⟩))
    · exact .inl ⟨_, _, u.tick_eq_goto⟩
    all_goals exact .inr (.inr (.inr (.inl ⟨hc, hlow, _, _, _, rfl⟩)))
  · -- CHECK
    split
    · next hok => exact .inr (.inr (.inr (.inr ⟨hc, hok, rfl⟩)))
    · exact .inr (.inr (.inl ⟨by simp [hc], _, rfl⟩))

/-- With the result registers unchanged every host register but STATUS reads as before (R44). -/
theorem State.readReg_of_results {s t : State}
    (h : t.hum = s.hum ∧ t.temp = s.temp ∧ t.raw0 = s.raw0 ∧ t.raw1 = s.raw1) :
    t.hum = s.hum ∧ t.temp = s.temp ∧ t.raw0 = s.raw0 ∧ t.raw1 = s.raw1 ∧
      ∀ r : Reg, r ≠ .status → t.readReg r = s.readReg r := by
  obtain ⟨hhum, htemp, hraw0, hraw1⟩ := h
  refine ⟨hhum, htemp, hraw0, hraw1, fun r hr => ?_⟩
  cases r with
  | status => exact absurd rfl hr
  | _ => simp [hhum, htemp, hraw0, hraw1]

/-- Settles O22: the surroundings first, then the five effects one by one. -/
theorem fsmOperationsFrame : Obligations.FsmOperationsFrame := by
  unfold Obligations.FsmOperationsFrame
  intro i s t hfsm h
  have hi := eq_decodeFsm_of_fsm hfsm
  generalize i.code = c at hi
  subst hi
  have hsame := exec_fsm_sameSurroundings h
  refine ⟨⟨hsame.sync1, hsame.lineS, hsame.pins, hsame.startReq, hsame.driveLowO, hsame.busRdata, hsame.inputs, hsame.cycle,
    hsame.params, hsame.platform⟩, ?_⟩
  rcases exec_fsm_effect h with ⟨c', n, rfl⟩ | ⟨hc, hstart, -⟩ | ⟨hc, e, rfl⟩ | ⟨hc, hlow, b, c', n, rfl⟩ |
    ⟨hc, hok, rfl⟩
  · -- a move
    exact ⟨fun _ _ => ⟨rfl, rfl⟩, fun _ _ => State.readReg_of_results ⟨rfl, rfl, rfl, rfl⟩,
      fun _ _ _ => ⟨rfl, rfl, rfl, rfl⟩⟩
  · -- an accepted START
    have haccept : decodeFsm c = .idle ∧ s.startReq = true := ⟨by rw [hc]; rfl, hstart⟩
    exact ⟨fun hno => absurd haccept hno, fun hno => absurd haccept hno, fun hno => absurd haccept hno⟩
  · -- a read that ends with an error
    have hnotIdle : decodeFsm c ≠ .idle := fun hidle => hc (eq_codeIdle_of_decodeFsm c hidle)
    exact ⟨fun _ _ => ⟨rfl, rfl⟩, fun _ _ => State.readReg_of_results ⟨rfl, rfl, rfl, rfl⟩,
      fun _ _ hon => absurd rfl (hon.resolve_left hnotIdle)⟩
  · -- a received bit
    have hedge : decodeFsm c = .bitHigh ∧ s.lineS = false := ⟨by rw [hc]; rfl, hlow⟩
    exact ⟨fun _ hno => absurd hedge hno, fun _ _ => State.readReg_of_results ⟨rfl, rfl, rfl, rfl⟩,
      fun _ _ _ => ⟨rfl, rfl, rfl, rfl⟩⟩
  · -- a posted result
    have hcheck : decodeFsm c = .check := by rw [hc]; rfl
    exact ⟨fun _ _ => ⟨rfl, rfl⟩, fun _ hno => absurd ⟨hcheck, hok⟩ hno, fun _ hno => absurd hcheck hno⟩

/-! ### IDLE without a START (R86, R114) -/

/-- Settles O35: without `start_req` IDLE keeps the state, and the clock edge shifts the synchronizer. -/
theorem idleIgnoresTheLine : Obligations.IdleIgnoresTheLine := by
  unfold Obligations.IdleIgnoresTheLine
  intro s i ha hidle herr hno hrst
  have hexec : exec (decodeFsm (s.present i).state) (s.present i).afterBus = .next (s.present i).afterBus := by
    rw [State.present_state, hidle]
    exact congrArg Host.Outcome.next (if_neg (by simp [hno]))
  rw [step_eq (s.present i) ha herr, fsmPhase_of_exec hrst hexec, State.afterBus_released (by simp [hidle]),
    State.nextInput_present, hno, State.busReadValue_present]
  rfl

/-! ### Runs that move along the path (R12, R19) -/

/-- A state from which the machine runs on: an accepted configuration with no reset to come and ERR not 3. -/
structure State.Ready (s : State) : Prop where
  accepted : s.Accepted
  noReset : s.NoReset
  err : s.err ≠ errReserved

/-- The state after a cycle whose operation only moves to a state code with a count. -/
def State.moved (c : Code) (n : Nat) (s : State) : State := (s.afterBus.goto c n).shiftSync

/-- A move leaves the machine ready. -/
theorem State.Ready.moved {s : State} (h : s.Ready) (c : Code) (n : Nat) : (s.moved c n).Ready :=
  ⟨h.accepted, fun i hi => h.noReset i (List.mem_of_mem_tail hi), h.err⟩

/-- In `k` cycles the machine moves from `s` to state code `c` with count `n`: it is ready there, with parameters, bit counter,
frame and ERR unchanged. -/
structure State.MovesTo (s : State) (k : Nat) (c : Code) (n : Nat) (t : State) : Prop where
  run : core.run k s = .next t
  ready : t.Ready
  state : t.state = c
  tcnt : t.tcnt = n
  params : t.params = s.params
  bitcnt : t.bitcnt = s.bitcnt
  shreg : t.shreg = s.shreg
  err : t.err = s.err

/-- No cycle moves nowhere. -/
theorem State.Ready.movesTo_zero {s : State} (h : s.Ready) : s.MovesTo 0 s.state s.tcnt s :=
  ⟨core_run_zero s, h, rfl, rfl, rfl, rfl, rfl, rfl⟩

/-- An operation that only moves is one cycle of the way. -/
theorem State.Ready.movesTo_one {s : State} (h : s.Ready) {c : Code} {n : Nat}
    (hv : exec (decodeFsm s.state) s.afterBus = .next (s.afterBus.goto c n)) : s.MovesTo 1 c n (s.moved c n) :=
  ⟨core_run_succ 0 (step_of_exec h.accepted h.noReset h.err hv), h.moved c n, rfl, rfl, rfl, rfl, rfl, rfl⟩

/-- Ways compose. -/
theorem State.MovesTo.trans {s t u : State} {j k n m : Nat} {c d : Code} (hst : s.MovesTo j c n t)
    (htu : t.MovesTo k d m u) : s.MovesTo (j + k) d m u where
  run := (core_run_add j k hst.run).trans htu.run
  ready := htu.ready
  state := htu.state
  tcnt := htu.tcnt
  params := htu.params.trans hst.params
  bitcnt := htu.bitcnt.trans hst.bitcnt
  shreg := htu.shreg.trans hst.shreg
  err := htu.err.trans hst.err

/-- An operation that only moves extends the way by a cycle. -/
theorem State.MovesTo.move {s t : State} {k n m : Nat} {c d : Code} (hst : s.MovesTo k c n t)
    (hv : exec (decodeFsm c) t.afterBus = .next (t.afterBus.goto d m)) : s.MovesTo (k + 1) d m (t.moved d m) :=
  hst.trans (hst.ready.movesTo_one (hst.state ▸ hv))

/-- An operation that only counts extends the way by a cycle in the same state. -/
theorem State.MovesTo.tick {s t : State} {k n : Nat} {c : Code} (hst : s.MovesTo k c n t)
    (hv : exec (decodeFsm c) t.afterBus = .next t.afterBus.tick) :
    s.MovesTo (k + 1) c (n + 1) (t.moved c (n + 1)) := by
  refine hst.move ?_
  rw [hv, State.tick_eq_goto, State.afterBus_state, State.afterBus_tcnt, hst.state, hst.tcnt]

/-! ### The start pulse (R87) -/

/-- START_LOW counts up to its window, whatever the line does. -/
theorem State.Ready.startLow_counts {s : State} (h : s.Ready) (hs : s.state = codeStartLow) (k : Nat)
    (hk : s.tcnt + k ≤ s.params.tStartCyc) : ∃ t, s.MovesTo k codeStartLow (s.tcnt + k) t := by
  induction k with
  | zero => exact ⟨s, hs ▸ h.movesTo_zero⟩
  | succ k ih =>
    obtain ⟨t, hst⟩ := ih (by omega)
    have hlt : ¬ t.params.tStartCyc ≤ t.tcnt := by rw [hst.params, hst.tcnt]; omega
    exact ⟨_, hst.tick (congrArg Host.Outcome.next (if_neg hlt))⟩

/-- At its window START_LOW releases the line. -/
theorem State.Ready.startLow_releases {s : State} (h : s.Ready) (hs : s.state = codeStartLow)
    (hk : s.params.tStartCyc ≤ s.tcnt) : ∃ t, s.MovesTo 1 codeRelease 1 t := by
  refine ⟨_, h.movesTo_one ?_⟩
  rw [hs]
  exact congrArg Host.Outcome.next (if_pos hk)

/-- From a used state code a ready machine steps, and drives the line exactly in START_LOW (R31). -/
theorem State.Ready.step_drive {s : State} (h : s.Ready) (hlegal : s.LegalCode) :
    ∃ t, step s = .next t ∧ t.driveLowO = decide (s.state = codeStartLow) := by
  obtain ⟨t, ht⟩ := step_answers h.accepted hlegal h.err
  refine ⟨t, ht, ?_⟩
  rw [(step_surroundings ht).2.1, s.driveLow_eq_decide, s.nextInput_no_reset h.noReset]
  simp

/-- Settles O52: the count goes up to the window in START_LOW, and the cycle at the window releases the line. -/
theorem startPulseLastsExactlyItsWindow : Obligations.StartPulseLastsExactlyItsWindow := by
  unfold Obligations.StartPulseLastsExactlyItsWindow
  intro s ha hno herr hs hone
  have h : s.Ready := ⟨ha, hno, herr⟩
  have pulse (k : Nat) (hk : k < s.params.tStartCyc) : ∃ t, s.MovesTo k codeStartLow (k + 1) t := by
    have hcount := h.startLow_counts hs k
    rw [hone, Nat.add_comm] at hcount
    exact hcount hk
  constructor
  · intro k hk
    obtain ⟨t, hst⟩ := pulse k hk
    obtain ⟨u, hu, hdrive⟩ := hst.ready.step_drive (by simp [State.LegalCode, hst.state])
    exact ⟨t, u, hst.run, hst.state, hst.tcnt, hu, by simp [hdrive, hst.state]⟩
  · have hpos := (windows_pos_of_wf ha.1).1
    obtain ⟨w, hw⟩ := Nat.exists_eq_add_of_le' hpos
    obtain ⟨t, hst⟩ := pulse w (by omega)
    obtain ⟨r, htr⟩ := hst.ready.startLow_releases hst.state (by rw [hst.params, hst.tcnt, hw])
    have hsr := hst.trans htr
    obtain ⟨u, hu, hdrive⟩ := hsr.ready.step_drive (by simp [State.LegalCode, hsr.state])
    rw [hw]
    exact ⟨r, u, hsr.run, hsr.state, hsr.tcnt, hu, by simp [hdrive, hsr.state]⟩

/-! ### The waits on the line (R85, R88 to R91) -/

/-- The operation of state code `c` is a wait for `level` on `line_s` up to `limit`, then on to `target` with the count that
`countNext` gives (R85); in `c` the SWPC does not drive the line. -/
structure WaitsFor (c : Code) (level : Bool) (limit : Params → Nat) (target : Code) (countNext : Nat → Nat) : Prop where
  released : c ≠ codeStartLow
  exec_eq (u : State) : exec (decodeFsm c) u = .next (u.waitFor (u.lineS == level) (limit u.params) target (countNext u.tcnt))

/-- RELEASE waits for the rising edge after the release (R88). -/
theorem release_waitsFor : WaitsFor codeRelease true Params.tHsCyc codeResp (· + 1) :=
  ⟨by decide, fun u => by rw [beq_true]; rfl⟩

/-- RESP waits for the sensor to pull the line low (R89). -/
theorem resp_waitsFor : WaitsFor codeResp false Params.tHsCyc codeAckLow (· + 1) :=
  ⟨by decide, fun u => by rw [beq_false]; rfl⟩

/-- ACK_LOW waits for the rising edge of the response (R90). -/
theorem ackLow_waitsFor : WaitsFor codeAckLow true Params.tHsCyc codeAckHigh (· + 1) :=
  ⟨by decide, fun u => by rw [beq_true]; rfl⟩

/-- ACK_HIGH waits for the falling edge that begins the first bit (R91). -/
theorem ackHigh_waitsFor : WaitsFor codeAckHigh false Params.tHsCyc codeBitLow (fun _ => 1) :=
  ⟨by decide, fun u => by rw [beq_false]; rfl⟩

section Wait
variable {c target : Code} {level : Bool} {limit : Params → Nat} {countNext : Nat → Nat}

/-- A move outside START_LOW takes the head of the line stream. -/
theorem State.lineStream_moved {s : State} (hs : s.state ≠ codeStartLow) {x : Bool} {L : List Bool}
    (hline : x :: L <+: s.lineStream) (d : Code) (n : Nat) : s.lineS = x ∧ L <+: (s.moved d n).lineStream :=
  lineStream_tail (v := s.afterBus.goto d n) hs hline rfl rfl rfl

/-- While the awaited level does not show, a wait counts up to its limit. -/
theorem WaitsFor.counts (hw : WaitsFor c level limit target countNext) {s : State} (h : s.Ready) (hs : s.state = c) {k : Nat}
    (hk : s.tcnt + k ≤ limit s.params) {L : List Bool} (hline : List.replicate k (!level) ++ L <+: s.lineStream) :
    ∃ t, s.MovesTo k c (s.tcnt + k) t ∧ L <+: t.lineStream := by
  induction k generalizing L with
  | zero => exact ⟨s, hs ▸ h.movesTo_zero, hline⟩
  | succ k ih =>
    rw [List.replicate_succ', List.append_assoc] at hline
    obtain ⟨t, hst, hline'⟩ := ih (by omega) hline
    obtain ⟨hlevel, hrest⟩ := State.lineStream_moved (hst.state ▸ hw.released) hline' c (s.tcnt + k + 1)
    have hlt : t.afterBus.tcnt < limit t.afterBus.params := by
      rw [State.afterBus_tcnt, State.afterBus_params, hst.params, hst.tcnt]
      omega
    have hv : exec (decodeFsm c) t.afterBus = .next t.afterBus.tick := by
      rw [hw.exec_eq, State.afterBus_lineS, hlevel, Bool.not_beq_self, State.waitFor_tick hlt]
    exact ⟨_, hst.tick hv, hrest⟩

/-- The awaited level at or before the limit ends a wait, and the way goes on in the countNext state. -/
theorem State.MovesTo.wait {s t : State} {j n k : Nat} (hst : s.MovesTo j c n t) (hw : WaitsFor c level limit target countNext)
    (hk : n + k ≤ limit s.params) {L : List Bool} (hline : List.replicate k (!level) ++ level :: L <+: t.lineStream) :
    ∃ u, s.MovesTo (j + (k + 1)) target (countNext (n + k)) u ∧ L <+: u.lineStream := by
  obtain ⟨u, htu, hline'⟩ := hw.counts hst.ready hst.state (by rwa [hst.tcnt, hst.params]) hline
  rw [hst.tcnt] at htu
  obtain ⟨hlevel, hrest⟩ := State.lineStream_moved (htu.state ▸ hw.released) hline' target (countNext (n + k))
  have hv : exec (decodeFsm c) u.afterBus = .next (u.afterBus.goto target (countNext (n + k))) := by
    rw [hw.exec_eq, State.afterBus_lineS, hlevel, beq_self_eq_true, State.waitFor_true, State.afterBus_tcnt, htu.tcnt]
  exact ⟨_, hst.trans (htu.move hv), hrest⟩

/-- At its limit without the awaited level a wait ends the read with TIMEOUT. -/
theorem WaitsFor.step_timeout (hw : WaitsFor c level limit target countNext) {s : State} (h : s.Ready) (hs : s.state = c)
    (hk : limit s.params ≤ s.tcnt) (hline : s.lineS = !level) :
    step s = .next (s.afterBus.complete errTimeout).shiftSync := by
  refine step_of_exec h.accepted h.noReset h.err ?_
  rw [hs, hw.exec_eq, State.afterBus_lineS, hline, Bool.not_beq_self]
  exact congrArg Host.Outcome.next (State.waitFor_timeout (s := s.afterBus) hk ..)

end Wait

/-- Settles O53: the four waits in a row, the last of them the one nearest to the limit. -/
theorem handshakeWithinTheWindowSucceeds : Obligations.HandshakeWithinTheWindowSucceeds := by
  unfold Obligations.HandshakeWithinTheWindowSucceeds
  intro s a b c d ha hno herr hs hone hb hc hd hwin hline
  obtain ⟨b, rfl⟩ := Nat.exists_eq_add_of_le' hb
  obtain ⟨c, rfl⟩ := Nat.exists_eq_add_of_le' hc
  obtain ⟨d, rfl⟩ := Nat.exists_eq_add_of_le' hd
  simp only [List.replicate_succ, List.append_assoc, List.cons_append] at hline
  have hrelease := (State.Ready.mk ha hno herr).movesTo_zero
  rw [hs, hone] at hrelease
  obtain ⟨t, hresp, hline⟩ := hrelease.wait (k := a) release_waitsFor (by omega) hline
  obtain ⟨u, hackLow, hline⟩ := hresp.wait (k := b) resp_waitsFor (by omega) hline
  obtain ⟨v, hackHigh, hline⟩ := hackLow.wait (k := c) ackLow_waitsFor (by omega) hline
  obtain ⟨w, hbitLow, -⟩ := hackHigh.wait (k := d) ackHigh_waitsFor (by omega) hline
  have hlength : a + (b + 1) + (c + 1) + (d + 1) + 1 = 0 + (a + 1) + (b + 1) + (c + 1) + (d + 1) := by omega
  exact ⟨w, hlength ▸ hbitLow.run, hbitLow.state, hbitLow.tcnt, hbitLow.bitcnt, hbitLow.shreg, hbitLow.err⟩

/-- Settles O54: RESP counts up to its limit, and there the line is still high. -/
theorem silentLineTimesOut : Obligations.SilentLineTimesOut := by
  unfold Obligations.SilentLineTimesOut
  intro s ha hno herr hs hwin hline
  rw [List.replicate_succ'] at hline
  obtain ⟨t, hst, hlast⟩ := resp_waitsFor.counts ⟨ha, hno, herr⟩ hs (by omega) hline
  have hcount : t.tcnt = s.params.tHsCyc := by rw [hst.tcnt]; omega
  obtain ⟨hhigh, -⟩ := List.cons_prefix_cons.mp hlast
  have hstep := resp_waitsFor.step_timeout hst.ready hst.state (by rw [hst.params, hcount]) hhigh.symm
  refine ⟨⟨t, hst.run, hst.state, hcount⟩, (t.afterBus.complete errTimeout).shiftSync, ?_, rfl, rfl, rfl, rfl, rfl⟩
  rw [core_run_add _ 1 hst.run, core_run_succ 0 hstep, core_run_zero]

end Sys2Proof.Machine
end

section
/-! Proofs of the bit sampler statements (spec/42_bit_sampler.md): the bit decision, the two operations of a data bit, and the runs
that receive one symbol and a whole frame over any line. -/

namespace Sys2Proof.Machine

/-! ### The bit decision (R99) -/

/-- Settles O23: the decision compares with `50 * CLK_PER_US`, strictly. -/
theorem bitDecisionIsStrict : Obligations.BitDecisionIsStrict := by
  unfold Obligations.BitDecisionIsStrict
  intro p
  have hdecide (h : Nat) : decideBit p h = decide (50 * p.clkPerUs < h) := rfl
  refine ⟨hdecide, fun hclk => ?vectors, ?atThreshold, ?aboveThreshold⟩
  case vectors => simp [hdecide, hclk]
  case atThreshold => simp [hdecide]
  case aboveThreshold => simp [hdecide]

/-! ### The operations (R97, R98) -/

/-- Settles O18: BIT_LOW is a wait for the rising edge. -/
theorem bitLowOperation : Obligations.BitLowOperation := by
  unfold Obligations.BitLowOperation
  exact fun s => congrArg Host.Outcome.next (s.waitFor_eq_ite Iff.rfl ..)

/-- Where a frame of `received` bits goes on, and with which count: to CHECK after the 40th bit, else to the next BIT_LOW (R96). -/
def nextPhase (received : BitVec 6) : Code × Nat := if received = 40#6 then (codeCheck, 0) else (codeBitLow, 1)

/-- With 40 bits received CHECK follows. -/
theorem nextPhase_last : nextPhase 40#6 = (codeCheck, 0) := rfl

/-- Below 40 bits the next bit follows. -/
theorem nextPhase_of_ne {received : BitVec 6} (h : received ≠ 40#6) : nextPhase received = (codeBitLow, 1) := if_neg h

/-- The decided bit enters the frame, and the read goes on to the next bit or to CHECK (R98). -/
def State.receiveBit (u : State) : State :=
  (u.shiftBit (decideBit u.params u.tcnt)).goto (nextPhase (u.bitcnt + 1#6)).1 (nextPhase (u.bitcnt + 1#6)).2

/-- After one more bit than `n` CHECK follows exactly when 39 were received before it. -/
theorem nextPhase_succ (n : BitVec 6) : nextPhase (n + 1#6) = if n = 39#6 then (codeCheck, 0) else (codeBitLow, 1) :=
  if_congr (by bv_omega) rfl rfl

/-- BIT_HIGH compares the bit counter before it increments it (R98). -/
theorem bitcnt_last_iff (n : BitVec 6) : n.toNat + 1 = Config.nBits ↔ n = 39#6 := by
  rw [BitVec.toNat_eq]
  exact Nat.succ_inj

/-- While the line is high below the window BIT_HIGH counts (R98). -/
theorem exec_bitHigh_tick {u : State} (hline : u.lineS = true) (hlt : u.tcnt < u.params.tBhCyc) :
    exec .bitHigh u = .next u.tick :=
  congrArg Host.Outcome.next ((if_pos hline).trans (if_neg (Nat.not_le_of_lt hlt)))

/-- At the falling edge BIT_HIGH receives the bit (R98). -/
theorem exec_bitHigh_falling {u : State} (hline : u.lineS = false) : exec .bitHigh u = .next u.receiveBit := by
  refine congrArg Host.Outcome.next ((if_neg (by simp [hline])).trans ?_)
  rw [State.receiveBit, nextPhase_succ]
  by_cases hlast : u.bitcnt = 39#6
  · rw [if_pos ((bitcnt_last_iff _).mpr hlast), if_pos hlast]
  · rw [if_neg (mt (bitcnt_last_iff _).mp hlast), if_neg hlast]

/-- Settles O19: the falling edge receives the bit; on the high line the limit and the count. -/
theorem bitHighOperation : Obligations.BitHighOperation := by
  unfold Obligations.BitHighOperation
  refine fun s => ⟨fun hlow => ⟨shiftIn s.shreg (decideBit s.params s.tcnt), ?value, ?edge⟩, fun hhigh => ?high⟩
  case value =>
    rw [shiftIn_toNat]
    exact congrArg (fun b => (2 * s.shreg.toNat + b) % 2 ^ 40) (Bool.cond_decide ..)
  case edge =>
    rw [exec_bitHigh_falling hlow, State.receiveBit, nextPhase_succ]
    by_cases hlast : s.bitcnt = 39#6
    · rw [if_pos hlast, if_pos hlast]; rfl
    · rw [if_neg hlast, if_neg hlast]; rfl
  case high => exact congrArg Host.Outcome.next (if_pos hhigh)

/-! ### Ways that show no result (R96, R110) -/

/-- The four result registers (R29, R30). -/
def State.results (s : State) : Half × Half × Word × Byte := (s.hum, s.temp, s.raw0, s.raw1)

/-- A way inside a read: the moves of `MovesTo`, with the result registers unchanged. -/
structure State.PassesTo (s : State) (k : Nat) (c : Code) (n : Nat) (t : State) : Prop extends s.MovesTo k c n t where
  results : t.results = s.results

/-- No cycle passes nowhere. -/
theorem State.Ready.passesTo_zero {s : State} (h : s.Ready) : s.PassesTo 0 s.state s.tcnt s := ⟨h.movesTo_zero, rfl⟩

/-- An operation that only moves extends the way by a cycle. -/
theorem State.PassesTo.move {s t : State} {k n m : Nat} {c d : Code} (hst : s.PassesTo k c n t)
    (hv : exec (decodeFsm c) t.afterBus = .next (t.afterBus.goto d m)) : s.PassesTo (k + 1) d m (t.moved d m) :=
  ⟨hst.toMovesTo.move hv, hst.results⟩

/-- An operation that only counts extends the way by a cycle in the same state. -/
theorem State.PassesTo.tick {s t : State} {k n : Nat} {c : Code} (hst : s.PassesTo k c n t)
    (hv : exec (decodeFsm c) t.afterBus = .next t.afterBus.tick) : s.PassesTo (k + 1) c (n + 1) (t.moved c (n + 1)) :=
  ⟨hst.toMovesTo.tick hv, hst.results⟩

/-! ### The two phases of a data bit (R97, R98) -/

/-- While `level` shows on `line_s` the operation of state code `c` counts up to `limit`; in `c` the SWPC does not drive the line. -/
structure CountsWhile (c : Code) (level : Bool) (limit : Params → Nat) : Prop where
  released : c ≠ codeStartLow
  exec_eq {u : State} (hline : u.lineS = level) (hlt : u.tcnt < limit u.params) : exec (decodeFsm c) u = .next u.tick

/-- BIT_LOW counts the low phase (R97). -/
theorem bitLow_countsWhile : CountsWhile codeBitLow false Params.tBlCyc where
  released := by decide
  exec_eq := fun {u} hline hlt => by
    have hwait : exec (decodeFsm codeBitLow) u = .next (u.waitFor u.lineS u.params.tBlCyc codeBitHigh 1) := rfl
    rw [hwait, hline, State.waitFor_tick hlt]

/-- BIT_HIGH counts the high phase (R98). -/
theorem bitHigh_countsWhile : CountsWhile codeBitHigh true Params.tBhCyc := ⟨by decide, exec_bitHigh_tick⟩

/-- A level of `k` cycles that ends within the limit is counted. -/
theorem State.PassesTo.counts {s t : State} {j n k : Nat} {c : Code} {level : Bool} {limit : Params → Nat}
    (hst : s.PassesTo j c n t) (hc : CountsWhile c level limit) (hk : n + k ≤ limit s.params) {L : List Bool}
    (hline : List.replicate k level ++ L <+: t.lineStream) :
    ∃ u, s.PassesTo (j + k) c (n + k) u ∧ L <+: u.lineStream := by
  induction k generalizing L with
  | zero => exact ⟨t, hst, hline⟩
  | succ k ih =>
    rw [List.replicate_succ', List.append_assoc] at hline
    obtain ⟨u, hsu, hline'⟩ := ih (by omega) hline
    obtain ⟨hlevel, hrest⟩ := State.lineStream_moved (hsu.state ▸ hc.released) hline' c (n + k + 1)
    have hlt : u.afterBus.tcnt < limit u.afterBus.params := by
      rw [State.afterBus_tcnt, State.afterBus_params, hsu.params, hsu.tcnt]
      omega
    exact ⟨_, hsu.tick (hc.exec_eq hlevel hlt), hrest⟩

/-- A low phase within its window leads to BIT_HIGH (R97). -/
theorem State.PassesTo.lowPhase {s t : State} {j low : Nat} (hst : s.PassesTo j codeBitLow 1 t)
    (hlow : low < s.params.tBlCyc) {L : List Bool} (hline : List.replicate low false ++ true :: L <+: t.lineStream) :
    ∃ u, s.PassesTo (j + low + 1) codeBitHigh 1 u ∧ L <+: u.lineStream := by
  obtain ⟨u, hsu, hedge⟩ := hst.counts bitLow_countsWhile (by omega) hline
  obtain ⟨hhigh, hrest⟩ := State.lineStream_moved (by simp [hsu.state]) hedge codeBitHigh 1
  have hrise : exec (decodeFsm codeBitLow) u.afterBus = .next (u.afterBus.goto codeBitHigh 1) :=
    congrArg Host.Outcome.next (if_pos hhigh)
  exact ⟨_, hsu.move hrise, hrest⟩

/-! ### The frame that the high durations leave (R101, R102) -/

/-- The bits that stood in the frame move up by one place for each duration. -/
theorem packDurations_getLsbD_add (p : Params) (f : Frame) (highs : List Nat) (k : Nat) (hk : k + highs.length < 40) :
    (packDurations p f highs).getLsbD (k + highs.length) = f.getLsbD k := by
  induction highs generalizing f k with
  | nil => rfl
  | cons h hs ih =>
    rw [List.length_cons] at hk ⊢
    have hplace : k + (hs.length + 1) = k + 1 + hs.length := by omega
    rw [packDurations, hplace, ih _ _ (by omega), shiftIn_getLsbD f _ _ (by omega)]
    simp

/-- The last duration decides bit 0, and each one before it the next higher bit (R102). -/
theorem packDurations_getLsbD (p : Params) (f : Frame) (highs : List Nat) (hlen : highs.length ≤ 40) (i : Nat)
    (hi : i < highs.length) : (packDurations p f highs).getLsbD (highs.length - 1 - i) = decideBit p highs[i] := by
  induction highs generalizing f i with
  | nil => exact absurd hi (Nat.not_lt_zero i)
  | cons h hs ih =>
    rw [List.length_cons] at hlen
    cases i with
    | zero =>
      have hframe := packDurations_getLsbD_add p (shiftIn f (decideBit p h)) hs 0 (by omega)
      rw [Nat.zero_add, shiftIn_getLsbD f _ 0 (by decide), if_pos rfl] at hframe
      exact hframe
    | succ i =>
      have hplace : (h :: hs).length - 1 - (i + 1) = hs.length - 1 - i := by simp; omega
      rw [hplace]
      exact ih _ (by omega) i (Nat.lt_of_succ_lt_succ hi)

/-! ### Receiving symbols (R96 to R102) -/

/-- In `k` cycles the machine receives symbols with the high durations `highs`: their bits enter the frame, and it is ready for the
next symbol or, after the 40th bit, for CHECK, with the parameters and the result registers unchanged. -/
structure State.Receives (s : State) (k : Nat) (highs : List Nat) (t : State) : Prop where
  run : core.run k s = .next t
  ready : t.Ready
  phase : (t.state, t.tcnt) = nextPhase t.bitcnt
  params : t.params = s.params
  shreg : t.shreg = packDurations s.params s.shreg highs
  bitcnt : t.bitcnt = s.bitcnt + BitVec.ofNat 6 highs.length
  results : t.results = s.results

/-- Between two symbols no cycle receives nothing. -/
theorem State.Ready.receives_nil {s : State} (h : s.Ready) (hphase : (s.state, s.tcnt) = nextPhase s.bitcnt) :
    s.Receives 0 [] s :=
  ⟨core_run_zero s, h, hphase, rfl, rfl, (BitVec.add_zero _).symm, rfl⟩

/-- A symbol and then the rest of them. -/
theorem State.Receives.cons {s t u : State} {j k high : Nat} {highs : List Nat} (hst : s.Receives j [high] t)
    (htu : t.Receives k highs u) : s.Receives (j + k) (high :: highs) u where
  run := (core_run_add j k hst.run).trans htu.run
  ready := htu.ready
  phase := htu.phase
  params := htu.params.trans hst.params
  shreg := by rw [htu.shreg, hst.shreg, hst.params]; rfl
  bitcnt := by
    rw [htu.bitcnt, hst.bitcnt, BitVec.add_assoc, ← BitVec.ofNat_add, Nat.add_comm]
    rfl
  results := htu.results.trans hst.results

/-- At the falling edge the bit of the counted high phase is received. -/
theorem State.PassesTo.receive {s t : State} {j high : Nat} (hst : s.PassesTo j codeBitHigh high t) {L : List Bool}
    (hline : false :: L <+: t.lineStream) : ∃ u, s.Receives (j + 1) [high] u ∧ L <+: u.lineStream := by
  obtain ⟨hlow, hrest⟩ := lineStream_tail (v := t.afterBus.receiveBit) (by simp [hst.state]) hline rfl rfl rfl
  have hv : exec (decodeFsm t.state) t.afterBus = .next t.afterBus.receiveBit := by
    rw [hst.state]
    exact exec_bitHigh_falling hlow
  obtain ⟨ha, hno, herr⟩ := hst.ready
  refine ⟨t.afterBus.receiveBit.shiftSync, ?_, hrest⟩
  exact {
    run := (core_run_add j 1 hst.run).trans (core_run_succ 0 (step_of_exec ha hno herr hv))
    ready := ⟨ha, fun i hi => hno i (List.mem_of_mem_tail hi), herr⟩
    phase := rfl
    params := hst.params
    shreg := by rw [← hst.tcnt, ← hst.params, ← hst.shreg]; rfl
    bitcnt := congrArg (· + 1#6) hst.bitcnt
    results := hst.results }

/-- A symbol within its windows is received: its low phase, its high phase and the falling edge. -/
theorem State.Ready.receives_symbol {s : State} (h : s.Ready) (hphase : (s.state, s.tcnt) = (codeBitLow, 1)) {low high : Nat}
    (hfits : SymbolFits s.params (low, high)) {L : List Bool} (hline : symbolLevels low high ++ L <+: s.lineStream) :
    ∃ t, s.Receives (low + high + 1) [high] t ∧ L <+: t.lineStream := by
  obtain ⟨hs, hone⟩ := Prod.mk.inj hphase
  obtain ⟨hlow, hpos, hhigh⟩ := hfits
  obtain ⟨high, rfl⟩ := Nat.exists_eq_add_of_le hpos
  rw [symbolLevels, Nat.add_comm 1 high, List.replicate_succ] at hline
  simp only [List.append_assoc, List.cons_append, List.nil_append] at hline
  have hstart := h.passesTo_zero
  rw [hs, hone] at hstart
  obtain ⟨t, hst, hline⟩ := hstart.lowPhase hlow hline
  obtain ⟨u, hsu, hline⟩ := hst.counts bitHigh_countsWhile hhigh hline
  have hlength : low + (1 + high) + 1 = 0 + low + 1 + high + 1 := by omega
  exact hlength ▸ hsu.receive hline

/-- Settles O55: a symbol is received, and the bit counter says where the read goes on. -/
theorem oneSymbolIsReceivedAsItsBit : Obligations.OneSymbolIsReceivedAsItsBit := by
  unfold Obligations.OneSymbolIsReceivedAsItsBit
  intro s low high ha hno herr hs hone hfits hline
  rw [← List.append_nil (symbolLevels low high)] at hline
  obtain ⟨t, hst, -⟩ := State.Ready.receives_symbol ⟨ha, hno, herr⟩ (by rw [hs, hone]) hfits hline
  have hphase : (t.state, t.tcnt) = if s.bitcnt = 39#6 then (codeCheck, 0) else (codeBitLow, 1) :=
    hst.phase.trans ((congrArg nextPhase hst.bitcnt).trans (nextPhase_succ s.bitcnt))
  refine ⟨t, hst.run, hst.shreg, hst.bitcnt, fun hlast => ?last, fun hmore => ?more⟩
  case last => exact Prod.mk.inj (hphase.trans (if_pos hlast))
  case more => exact Prod.mk.inj (hphase.trans (if_neg hmore))

/-- The length of a symbol is that of its two phases and the falling edge. -/
theorem symbolLevels_length (low high : Nat) : (symbolLevels low high).length = low + high + 1 := by
  simp [symbolLevels, Nat.add_assoc]

/-- Symbols within their windows are received one after the other, up to the 40th. -/
theorem State.Ready.receives_frame {s : State} (h : s.Ready) (hphase : (s.state, s.tcnt) = nextPhase s.bitcnt)
    {syms : List (Nat × Nat)} (hroom : s.bitcnt.toNat + syms.length ≤ 40) (hfits : ∀ sym ∈ syms, SymbolFits s.params sym)
    (hline : frameLevels syms <+: s.lineStream) :
    ∃ t, s.Receives (frameLevels syms).length (syms.map Prod.snd) t := by
  induction syms generalizing s with
  | nil => exact ⟨s, h.receives_nil hphase⟩
  | cons sym rest ih =>
    obtain ⟨low, high⟩ := sym
    obtain ⟨hsym, hrest⟩ := List.forall_mem_cons.mp hfits
    rw [List.length_cons] at hroom
    have hmore : s.bitcnt ≠ 40#6 := by
      intro hfull
      simp [hfull] at hroom
    obtain ⟨t, hst, hline'⟩ := h.receives_symbol (hphase.trans (nextPhase_of_ne hmore)) hsym hline
    have hcnt : t.bitcnt.toNat = s.bitcnt.toNat + 1 := by
      rw [hst.bitcnt, List.length_singleton, BitVec.toNat_add, BitVec.toNat_ofNat]
      omega
    obtain ⟨u, htu⟩ := ih hst.ready hst.phase (by omega) (by rwa [hst.params]) hline'
    refine ⟨u, ?_⟩
    rw [frameLevels, List.length_append, symbolLevels_length]
    exact hst.cons htu

/-! ### The frame is posted (R104, R108, R109) -/

/-- CHECK ends the read with the result of the frame or with CHECKSUM_FAILED (R104). -/
theorem State.Ready.step_check {s : State} (h : s.Ready) (hs : s.state = codeCheck) :
    step s = .next (if frameOk s.shreg then s.afterBus.postResult.complete errNone
      else s.afterBus.complete errChecksum).shiftSync := by
  refine step_of_exec h.accepted h.noReset h.err ?_
  rw [hs]
  rfl

/-- Settles O56: the frame is received bit by bit, and CHECK posts it or reports it. -/
theorem fortySymbolsAreDecodedAndPosted : Obligations.FortySymbolsAreDecodedAndPosted := by
  unfold Obligations.FortySymbolsAreDecodedAndPosted
  intro s syms ha hno herr hs hone hzero hlen hfits hline
  obtain ⟨t, hst⟩ := State.Ready.receives_frame ⟨ha, hno, herr⟩ (by rw [hs, hone, hzero]; rfl)
    (by rw [hzero, hlen]; decide) hfits hline
  have hfull : t.bitcnt = 40#6 := by
    rw [hst.bitcnt, List.length_map, hlen, hzero]
    rfl
  obtain ⟨hcheck, -⟩ := Prod.mk.inj (hst.phase.trans ((congrArg nextPhase hfull).trans nextPhase_last))
  have hbits (i : Nat) (hi : i < syms.length) :
      t.shreg.getLsbD (39 - i) = decide (50 * s.params.clkPerUs < syms[i].2) := by
    have hbit := packDurations_getLsbD s.params s.shreg (syms.map Prod.snd) (by simp [hlen]) i (by simpa using hi)
    simp only [← hst.shreg, List.length_map, hlen, List.getElem_map] at hbit
    exact hbit
  have hstep := hst.ready.step_check hcheck
  cases hok : frameOk t.shreg with
  | true =>
    rw [hok, if_pos rfl] at hstep
    exact ⟨t, _, hst.run, hcheck, hfull, hbits, hstep, rfl, rfl,
      fun _ => ⟨rfl, rfl, rfl, rfl, bytes_append t.shreg⟩, fun hfails => by simp [hok] at hfails⟩
  | false =>
    rw [hok, if_neg (by decide)] at hstep
    obtain ⟨hhum, htemp, hraw0, hraw1⟩ : t.hum = s.hum ∧ t.temp = s.temp ∧ t.raw0 = s.raw0 ∧ t.raw1 = s.raw1 := by
      simpa [State.results] using hst.results
    exact ⟨t, _, hst.run, hcheck, hfull, hbits, hstep, rfl, rfl,
      fun hpasses => by simp [hok] at hpasses, fun _ => ⟨rfl, rfl, hhum, htemp, hraw0, hraw1⟩⟩

end Sys2Proof.Machine
end

section
/-! Proofs of the frame decoder statements (spec/43_frame_checksum.md): the checksum relation and the quotients, the CHECK operation, the
unused state codes, and what the step that ends a read shows. -/

namespace Sys2Proof.Machine

/-! ### The pure functions (R105 to R107) -/

/-- The wrapping sum of the bytes is their sum mod 256 (R105). -/
theorem checksumOk_iff (b0 b1 b2 b3 b4 : Byte) :
    checksumOk b0 b1 b2 b3 b4 = true ↔ (b0.toNat + b1.toNat + b2.toNat + b3.toNat) % 256 = b4.toNat := by
  simp only [checksumOk, beq_iff_eq, BitVec.toNat_eq, BitVec.toNat_add]
  omega

/-- The quotient of a big-endian word of two bytes by 10 (R106, R107). -/
theorem wordQuotient_toNat (high low : Byte) :
    ((high ++ low : Half) / Config.div).toNat = (high.toNat * 256 + low.toNat) / 10 := by
  rw [BitVec.toNat_udiv, toNat_append_eq_add]
  rfl

/-- The quotient of the greatest word is 6553 (R106, R107). -/
theorem wordQuotient_le (high low : Byte) : ((high ++ low : Half) / Config.div).toNat ≤ 6553 := by
  have hword := (high ++ low : Half).isLt
  rw [BitVec.toNat_udiv]
  exact Nat.div_le_div_right (c := 10) (Nat.le_of_lt_succ hword)

/-- Settles O25: humidity and temperature are the same quotient, of their own bytes. -/
theorem extractionDividesTheUnsignedWordByTen : Obligations.ExtractionDividesTheUnsignedWordByTen := by
  unfold Obligations.ExtractionDividesTheUnsignedWordByTen
  have hquotient (high low : Byte) := And.intro (wordQuotient_toNat high low) (wordQuotient_le high low)
  exact ⟨hquotient, hquotient, by decide⟩

/-! ### The CHECK operation (R104, R108, R109) -/

/-- On a frame that passes CHECK posts the result (R108). -/
theorem exec_check_passes {s : State} (hok : frameOk s.shreg = true) :
    exec .check s = .next (s.postResult.complete errNone) :=
  congrArg Host.Outcome.next (if_pos hok)

/-- On a frame that fails CHECK reports it (R109). -/
theorem exec_check_fails {s : State} (hbad : frameOk s.shreg = false) :
    exec .check s = .next (s.complete errChecksum) :=
  congrArg Host.Outcome.next (if_neg (by simp [hbad]))

/-- Settles O24: the relation with its two vectors, and the failing CHECK. -/
theorem checksumIsTheSumOfFourBytesMod256 : Obligations.ChecksumIsTheSumOfFourBytesMod256 := by
  unfold Obligations.ChecksumIsTheSumOfFourBytesMod256
  exact ⟨checksumOk_iff, by decide, by decide, fun s hbad => ⟨_, exec_check_fails hbad, rfl⟩⟩

/-- The value of a frame is its bytes in base 256, byte 0 first (R24). -/
theorem frame_toNat (b0 b1 b2 b3 b4 : Byte) :
    (b0 ++ b1 ++ b2 ++ b3 ++ b4 : Frame).toNat =
      (((b0.toNat * 256 + b1.toNat) * 256 + b2.toNat) * 256 + b3.toNat) * 256 + b4.toNat := by
  simp only [toNat_append_eq_add, Nat.reducePow]

/-- The byte fields of a frame that is laid out from five bytes are these bytes (R24). -/
theorem bytes_of_append (b0 b1 b2 b3 b4 : Byte) {f : Frame} (h : f = b0 ++ b1 ++ b2 ++ b3 ++ b4) :
    byte0 f = b0 ∧ byte1 f = b1 ∧ byte2 f = b2 ∧ byte3 f = b3 ∧ byte4 f = b4 := by
  have hvalue := (congrArg BitVec.toNat h).trans (frame_toNat b0 b1 b2 b3 b4)
  refine ⟨?_, ?_, ?_, ?_, ?_⟩
  all_goals
    apply BitVec.eq_of_toNat_eq
    refine (BitVec.extractLsb'_toNat ..).trans ?_
    rw [Nat.shiftRight_eq_div_pow]
    omega

/-- Settles O20: the two outcomes of CHECK, with the fields of the frame as its five bytes. -/
theorem checkOperation : Obligations.CheckOperation := by
  unfold Obligations.CheckOperation
  intro s b0 b1 b2 b3 b4 hframe
  obtain ⟨h0, h1, h2, h3, h4⟩ := bytes_of_append b0 b1 b2 b3 b4 hframe
  have hok : frameOk s.shreg = true ↔ (b0.toNat + b1.toNat + b2.toNat + b3.toNat) % 256 = b4.toNat := by
    rw [frameOk, h0, h1, h2, h3, h4]
    exact checksumOk_iff b0 b1 b2 b3 b4
  refine ⟨fun hsum => ?passes, fun hsum => ?fails⟩
  case passes =>
    rw [exec_check_passes (hok.mpr hsum), State.postResult, h0, h1, h2, h3, h4, ← wordQuotient_toNat, ← wordQuotient_toNat,
      BitVec.ofNat_toNat, BitVec.ofNat_toNat, BitVec.setWidth_eq, BitVec.setWidth_eq]
    rfl
  case fails => exact exec_check_fails (Bool.eq_false_iff.mpr (mt hok.mp hsum))

/-! ### The unused state codes (R62, R113) -/

/-- The operation of an unused state code faults with that code (R113). -/
theorem exec_fsm_unused {c : Code} (hunused : 9 ≤ c.toNat) (u : State) :
    exec (decodeFsm c) u = .fault (.unreachableState c) := by
  obtain ⟨-, hcode, -⟩ := decodeFsm_fields c
  rcases decodeFsm_cases c with ⟨rfl, -⟩ | ⟨rfl, -⟩ | ⟨rfl, -⟩ | ⟨rfl, -⟩ | ⟨rfl, -⟩ | ⟨rfl, -⟩ | ⟨rfl, -⟩ | ⟨rfl, -⟩ |
    ⟨rfl, -⟩ | ⟨-, hd | ⟨l, hd⟩ | ⟨l, hd⟩⟩
  iterate 9 -- the used codes
    exact absurd hunused (by decide)
  all_goals
    rw [hd] at hcode ⊢
    rw [← hcode]
    rfl

/-- Without `rst` an operation that faults makes the FSM phase fault. -/
theorem fsmPhase_of_fault {u : State} {f : Fault} (hrst : u.pins.rst = false) (hf : exec (decodeFsm u.state) u = .fault f) :
    fsmPhase u = .fault f := by
  unfold fsmPhase State.operation
  rw [if_neg (by simp [hrst])]
  simp only [hf]

/-- No step ends in an unused state code: a reset leaves code 0, and the moves of R19 lead only to used codes. -/
theorem step_legalCode {s t : State} (h : step s = .next t) : t.LegalCode := by
  rcases step_cases h with ⟨-, rfl⟩ | ⟨hrst, -⟩
  · simp [State.LegalCode]
  · by_contra hlegal
    have hne (c : Code) (hc : c.toNat ≤ 8) : t.state ≠ c := fun heq => hlegal (heq.symm ▸ hc : t.state.toNat ≤ 8)
    have hmove := stateMovesOnlyAlongThePath s t h ((step_pins_rst h).trans hrst)
    simp [hne] at hmove

/-- Settles O21: the three instructions, the step from an unused code, the moves, and the reset state. -/
theorem unusedCodesFaultAndAreNeverEntered : Obligations.UnusedCodesFaultAndAreNeverEntered := by
  unfold Obligations.UnusedCodesFaultAndAreNeverEntered
  refine ⟨fun _ => ⟨rfl, fun _ => rfl, fun _ => rfl⟩, ?fault, fun _ _ _ h => step_legalCode h, rfl⟩
  case fault =>
    intro s ha herr hrst hunused
    rw [step_eq s ha herr]
    exact fsmPhase_of_fault hrst (exec_fsm_unused hunused s.afterBus)

/-! ### The step that ends a read (R110, R119, R123) -/

/-- Outside IDLE a wait whose target is not IDLE comes to IDLE only by its timeout (R85). -/
theorem State.waitFor_eq_complete_of_idle {s : State} {cond : Bool} {limit n : Nat} {target : Code} (hbusy : s.state ≠ codeIdle)
    (htarget : target ≠ codeIdle) (hidle : (s.waitFor cond limit target n).state = codeIdle) :
    s.waitFor cond limit target n = s.complete errTimeout := by
  rcases s.waitFor_cases cond limit target n with ⟨-, hv⟩ | ⟨-, -, hv⟩ | ⟨-, -, hv⟩
  · rw [hv] at hidle; exact absurd hidle htarget
  · exact hv
  · rw [hv] at hidle; exact absurd hidle hbusy

/-- An operation that ends a read posts the result of a frame that passes CHECK, or completes with TIMEOUT or CHECKSUM_FAILED. -/
theorem exec_fsm_ends {u v : State} (hbusy : u.state ≠ codeIdle) (h : exec (decodeFsm u.state) u = .next v)
    (hidle : v.state = codeIdle) :
    ((u.state = codeCheck ∧ frameOk u.shreg = true) ∧ v = u.postResult.complete errNone) ∨
    (¬ (u.state = codeCheck ∧ frameOk u.shreg = true) ∧ ∃ e, (e = errTimeout ∨ e = errChecksum) ∧ v = u.complete e) := by
  rcases exec_fsm_next h with ⟨hs, -⟩ | ⟨hs, rfl⟩ | ⟨hs, rfl⟩ | ⟨hs, rfl⟩ | ⟨hs, rfl⟩ | ⟨hs, rfl⟩ | ⟨hs, rfl⟩ |
    ⟨hs, hbit⟩ | ⟨hs, rfl⟩
  · -- IDLE
    exact absurd hs hbusy
  · -- START_LOW
    split at hidle <;> simp [hs] at hidle
  iterate 5 -- the five waits
    exact .inr ⟨by simp [hs], _, .inl rfl, State.waitFor_eq_complete_of_idle hbusy (by decide) hidle⟩
  · -- BIT_HIGH
    rcases hbit with ⟨-, -, rfl⟩ | ⟨-, -, rfl⟩ | ⟨-, -, rfl⟩ | ⟨-, -, rfl⟩
    · exact .inr ⟨by simp [hs], _, .inl rfl, rfl⟩
    all_goals simp [hs] at hidle
  · -- CHECK
    split
    · next hok => exact .inl ⟨⟨hs, hok⟩, rfl⟩
    · next hbad => exact .inr ⟨fun hpass => hbad hpass.2, _, .inr rfl, rfl⟩

/-- Settles O44: a posted result sets VALID; every other end leaves the zeros of the read in flight. -/
theorem readingIsEmittedIffTheChecksumHolds : Obligations.ReadingIsEmittedIffTheChecksumHolds := by
  unfold Obligations.ReadingIsEmittedIffTheChecksumHolds
  intro s t h hbusy hstep hrst hidle
  obtain ⟨v, hv, rfl⟩ := step_operation hstep hrst
  rcases exec_fsm_ends (u := s.afterBus) hbusy hv hidle with ⟨hpass, rfl⟩ | ⟨hfail, e, he, rfl⟩
  · -- a posted result
    exact ⟨rfl, rfl, iff_of_true rfl hpass, by simp, fun _ => rfl, by simp⟩
  · -- an error
    obtain ⟨hhum, htemp, hraw0, hraw1⟩ := (h.inFlight hbusy).results
    have hne : e ≠ 0#2 := by rcases he with rfl | rfl <;> decide
    exact ⟨rfl, rfl, iff_of_false (by simp [hne]) hfail, fun _ => by simp [hhum, htemp, hraw0, hraw1],
      by simp [hne], fun _ => he⟩

end Sys2Proof.Machine
end

section
/-! Proofs of the exception statements (spec/60_exceptions.md): what ends a read, which operation raises each error code, and how long
the result lasts. -/

namespace Sys2Proof.Machine

/-! ### Complete (R118) -/

/-- Settles O27: the flags of a completion, and then the move to IDLE. -/
theorem completionWritesStatusOnly : Obligations.CompletionWritesStatusOnly := by
  unfold Obligations.CompletionWritesStatusOnly
  exact fun code s => rfl

/-! ### What raises an error code (R115 to R117) -/

/-- One of the six waits has reached its limit without the level it waits for (R116). -/
def State.TimesOut (s : State) : Prop :=
  (s.state = codeRelease ∧ s.lineS = false ∧ s.params.tHsCyc ≤ s.tcnt) ∨
  (s.state = codeResp ∧ s.lineS = true ∧ s.params.tHsCyc ≤ s.tcnt) ∨
  (s.state = codeAckLow ∧ s.lineS = false ∧ s.params.tHsCyc ≤ s.tcnt) ∨
  (s.state = codeAckHigh ∧ s.lineS = true ∧ s.params.tHsCyc ≤ s.tcnt) ∨
  (s.state = codeBitLow ∧ s.lineS = false ∧ s.params.tBlCyc ≤ s.tcnt) ∨
  (s.state = codeBitHigh ∧ s.lineS = true ∧ s.params.tBhCyc ≤ s.tcnt)

/-- CHECK has a frame that fails the checksum (R104, R117). -/
def State.FailsCheck (s : State) : Prop := s.state = codeCheck ∧ frameOk s.shreg = false

/-- A failing CHECK is not a wait at its limit. -/
theorem State.FailsCheck.not_timesOut {s : State} (h : s.FailsCheck) : ¬ s.TimesOut := by
  simp [State.TimesOut, h.1]

/-- How an operation run in `u` leaves ERR in `v`: it raises TIMEOUT or CHECKSUM_FAILED, or it keeps or clears ERR. -/
def State.RaisesInto (u v : State) : Prop :=
  (u.TimesOut ∧ v.err = errTimeout) ∨ (u.FailsCheck ∧ v.err = errChecksum) ∨
    (¬ u.TimesOut ∧ ¬ u.FailsCheck ∧ (v.err = u.err ∨ v.err = errNone))

/-- Outside CHECK, where no wait runs out, an operation that keeps or clears ERR raises nothing. -/
theorem State.raisesInto_of_kept {u v : State} (hs : u.state ≠ codeCheck) (hout : ¬ u.TimesOut)
    (hkept : v.err = u.err ∨ v.err = errNone) : u.RaisesInto v :=
  .inr (.inr ⟨hout, fun hfail => hs hfail.1, hkept⟩)

/-- A wait raises TIMEOUT exactly at its limit without its condition (R85). -/
theorem State.waitFor_raises {s : State} {cond : Bool} {limit n : Nat} {target : Code} (hs : s.state ≠ codeCheck)
    (hout : s.TimesOut ↔ cond = false ∧ limit ≤ s.tcnt) : s.RaisesInto (s.waitFor cond limit target n) := by
  rcases s.waitFor_cases cond limit target n with ⟨hcond, hv⟩ | ⟨hcond, hle, hv⟩ | ⟨-, hlt, hv⟩ <;> rw [hv]
  · exact State.raisesInto_of_kept hs (by simp [hout, hcond]) (.inl rfl)
  · exact .inl ⟨hout.mpr ⟨hcond, hle⟩, rfl⟩
  · exact State.raisesInto_of_kept hs (by simp [hout, hlt]) (.inl rfl)

/-- Everything an operation can do to ERR (R115 to R117). -/
theorem exec_fsm_raises {u v : State} (h : exec (decodeFsm u.state) u = .next v) : u.RaisesInto v := by
  rcases exec_fsm_next h with ⟨hs, rfl⟩ | ⟨hs, rfl⟩ | ⟨hs, rfl⟩ | ⟨hs, rfl⟩ | ⟨hs, rfl⟩ | ⟨hs, rfl⟩ | ⟨hs, rfl⟩ |
    ⟨hs, hbit⟩ | ⟨hs, rfl⟩
  · -- IDLE
    refine State.raisesInto_of_kept (by simp [hs]) (by simp [State.TimesOut, hs]) ?_
    split
    · exact .inr rfl
    · exact .inl rfl
  · -- START_LOW
    refine State.raisesInto_of_kept (by simp [hs]) (by simp [State.TimesOut, hs]) (.inl ?_)
    split <;> rfl
  iterate 5 -- the five waits
    exact State.waitFor_raises (by simp [hs]) (by simp [State.TimesOut, hs])
  · -- BIT_HIGH
    have hout : u.TimesOut ↔ u.lineS = true ∧ u.params.tBhCyc ≤ u.tcnt := by simp [State.TimesOut, hs]
    rcases hbit with ⟨hline, hle, rfl⟩ | ⟨-, hlt, rfl⟩ | ⟨hline, -, rfl⟩ | ⟨hline, -, rfl⟩
    · exact .inl ⟨hout.mpr ⟨hline, hle⟩, rfl⟩
    · exact State.raisesInto_of_kept (by simp [hs]) (by simp [hout, hlt]) (.inl rfl)
    all_goals exact State.raisesInto_of_kept (by simp [hs]) (by simp [hout, hline]) (.inl rfl)
  · -- CHECK
    split
    · next hok => exact .inr (.inr ⟨by simp [State.TimesOut, hs], by simp [State.FailsCheck, hok], .inr rfl⟩)
    · next hbad => exact .inr (.inl ⟨⟨hs, by simpa using hbad⟩, rfl⟩)

/-- Everything a step without `rst` can do to ERR: the ports, the transaction and the clock edge do nothing to it. -/
theorem step_raises {s t : State} (h : step s = .next t) (hrst : t.pins.rst = false) : s.RaisesInto t := by
  obtain ⟨v, hv, rfl⟩ := step_operation h hrst
  have hraises : s.afterBus.RaisesInto v := exec_fsm_raises hv
  exact hraises

/-- Settles O42: of the three things a step can do to ERR only the first gives TIMEOUT. -/
theorem timeoutIsRaisedExactlyByTheWaits : Obligations.TimeoutIsRaisedExactlyByTheWaits := by
  unfold Obligations.TimeoutIsRaisedExactlyByTheWaits
  intro s t h hrst herr
  change t.err = errTimeout ↔ s.TimesOut
  rcases step_raises h hrst with ⟨hout, ht⟩ | ⟨hfail, ht⟩ | ⟨hout, -, ht⟩
  · exact iff_of_true ht hout
  · exact iff_of_false (by simp [ht]) hfail.not_timesOut
  · have hnone : t.err = errNone := ht.elim (·.trans herr) id
    exact iff_of_false (by simp [hnone]) hout

/-- In CHECK of an invariant state all 40 bits have been received (R104). -/
theorem State.Inv.bitcnt_of_check {s : State} (h : s.Inv) (hs : s.state = codeCheck) : s.bitcnt = 40#6 := by
  obtain ⟨-, -, -, -, ⟨-, -, -, hcheck, -⟩, -⟩ := h
  exact BitVec.eq_of_toNat_eq (hcheck hs)

/-- Settles O43: of the three things a step can do to ERR only the second gives CHECKSUM_FAILED. -/
theorem checksumFailureIsRaisedOnlyByCheck : Obligations.ChecksumFailureIsRaisedOnlyByCheck := by
  unfold Obligations.ChecksumFailureIsRaisedOnlyByCheck
  intro s t hinv h hrst herr
  have hiff : t.err = errChecksum ↔ s.FailsCheck := by
    rcases step_raises h hrst with ⟨hout, ht⟩ | ⟨hfail, ht⟩ | ⟨-, hfail, ht⟩
    · exact iff_of_false (by simp [ht]) fun hfail => hfail.not_timesOut hout
    · exact iff_of_true ht hfail
    · refine iff_of_false ?_ hfail
      rcases ht with ht | ht <;> simp [ht, herr]
  exact ⟨hiff, fun ht => hinv.bitcnt_of_check (hiff.mp ht).1⟩

/-! ### How long the result lasts (R121, R142) -/

/-- With DONE an invariant state is in IDLE (R27). -/
theorem State.Inv.idle_of_done {s : State} (h : s.Inv) (hdone : s.done = true) : s.state = codeIdle := by
  by_contra hbusy
  have hnot : s.done = false := (h.inFlight hbusy).done
  simp [hdone] at hnot

/-- In IDLE a step without `rst` and without a START runs the ports and the clock edge only (R86). -/
theorem step_idle {s t : State} (h : step s = .next t) (hidle : s.state = codeIdle) (hrst : s.nextInput.rst = false)
    (hno : s.nextInput.isStart = false) : t = s.afterBus.shiftSync := by
  have hexec : exec (decodeFsm s.afterBus.state) s.afterBus = .next s.afterBus := by
    rw [State.afterBus_state, hidle]
    exact congrArg Host.Outcome.next (if_neg (by simp [hno]))
  exact Host.Outcome.next.inj ((step_next h).2.symm.trans (fsmPhase_of_exec hrst hexec))

/-- The ports, the transaction and the clock edge change no host register (R44, R46). -/
theorem State.readReg_afterBus_shiftSync (s : State) (r : Reg) : s.afterBus.shiftSync.readReg r = s.readReg r := by
  cases r <;> rfl

/-- Settles O37: DONE means IDLE, and IDLE without a START keeps the flags and the registers. -/
theorem resultLastsUntilTheNextStart : Obligations.ResultLastsUntilTheNextStart := by
  unfold Obligations.ResultLastsUntilTheNextStart
  intro s t hinv hdone hrst hno h
  rw [step_idle h (hinv.idle_of_done hdone) hrst hno]
  exact ⟨hdone, rfl, rfl, s.readReg_afterBus_shiftSync⟩

end Sys2Proof.Machine
end

section
/-! Proofs of the reset and hazard statements (spec/70_reset_and_hazards.md): the start pulse in the synchronizer, reset, the refused
platforms, the inter-read interval that no step sees, and the bound on the length of a read. -/

namespace Sys2Proof.Machine

/-! ### The start pulse in the synchronizer (R143, R150) -/

/-- Settles O49: the reset state is in IDLE, where the synchronizer invariant asks nothing. -/
theorem synchronizerInvariantHoldsAtReset : Obligations.SynchronizerInvariantHoldsAtReset := by
  unfold Obligations.SynchronizerInvariantHoldsAtReset
  simp [State.SyncInv, State.reset]

/-- A reset leaves IDLE, where the synchronizer invariant asks nothing. -/
theorem State.applyReset_syncInv (s : State) : s.applyReset.SyncInv := by
  simp [State.SyncInv]

/-- The ports and the transaction touch nothing of the synchronizer invariant. -/
theorem State.afterBus_syncInv {s : State} : s.afterBus.SyncInv ↔ s.SyncInv := Iff.rfl

/-- Over the clock edge a wait keeps the synchronizer invariant when its move and its tick do: its timeout leads to IDLE (R85). -/
theorem State.waitFor_syncInv {u : State} {cond : Bool} {limit n : Nat} {target : Code}
    (hmove : cond = true → (u.goto target n).shiftSync.SyncInv) (htick : u.tick.shiftSync.SyncInv) :
    (u.waitFor cond limit target n).shiftSync.SyncInv := by
  rcases u.waitFor_cases cond limit target n with ⟨hcond, hv⟩ | ⟨-, -, hv⟩ | ⟨-, -, hv⟩ <;> rw [hv]
  · exact hmove hcond
  · simp [State.SyncInv]
  · exact htick

/-- An operation and the clock edge keep the synchronizer invariant where START_LOW holds the pad low for two cycles or more. -/
theorem exec_fsm_syncInv {u v : State} (hwin : 2 ≤ u.params.tStartCyc) (hlow : u.state = codeStartLow → u.pins.lineI = false)
    (h : u.SyncInv) (hv : exec (decodeFsm u.state) u = .next v) : v.shiftSync.SyncInv := by
  obtain ⟨hstart, hrelease, hresp, hackLow, hackHigh⟩ := h
  rcases exec_fsm_next hv with ⟨hs, rfl⟩ | ⟨hs, rfl⟩ | ⟨hs, rfl⟩ | ⟨hs, rfl⟩ | ⟨hs, rfl⟩ | ⟨hs, rfl⟩ | ⟨hs, rfl⟩ |
    ⟨hs, hbit⟩ | ⟨hs, rfl⟩
  · -- IDLE
    split <;> simp [State.SyncInv, hs]
  · -- START_LOW
    obtain ⟨hsync1, -⟩ := hstart hs
    split
    · next hle => simp [State.SyncInv, hlow hs, hsync1 (hwin.trans hle)]
    · simpa [State.SyncInv, hs, hlow hs] using hsync1
  · -- RELEASE
    obtain ⟨hpos, hone, htwo⟩ := hrelease hs
    refine State.waitFor_syncInv (fun hhigh => ?move) ?tick
    case move =>
      have h1 : u.tcnt ≠ 1 := fun h1 => by simp [(hone h1).2] at hhigh
      have h2 : u.tcnt ≠ 2 := fun h2 => by simp [htwo h2] at hhigh
      have h3 : 4 ≤ u.tcnt + 1 := by omega
      simpa [State.SyncInv] using h3
    case tick =>
      have h0 : u.tcnt ≠ 0 := Nat.ne_of_gt hpos
      simpa [State.SyncInv, hs, h0] using fun h1 => (hone h1).1
  · -- RESP
    have hcount : 4 ≤ u.tcnt := hresp hs
    exact State.waitFor_syncInv (fun _ => by simpa [State.SyncInv] using hcount) (by simp [State.SyncInv, hs]; omega)
  · -- ACK_LOW
    have hcount : 5 ≤ u.tcnt := hackLow hs
    exact State.waitFor_syncInv (fun _ => by simpa [State.SyncInv] using hcount) (by simp [State.SyncInv, hs]; omega)
  · -- ACK_HIGH
    have hcount : 6 ≤ u.tcnt := hackHigh hs
    exact State.waitFor_syncInv (fun _ => by simp [State.SyncInv]) (by simp [State.SyncInv, hs]; omega)
  · -- BIT_LOW
    exact State.waitFor_syncInv (fun _ => by simp [State.SyncInv]) (by simp [State.SyncInv, hs])
  · -- BIT_HIGH
    rcases hbit with ⟨-, -, rfl⟩ | ⟨-, -, rfl⟩ | ⟨-, -, rfl⟩ | ⟨-, -, rfl⟩ <;> simp [State.SyncInv, hs]
  · -- CHECK
    split <;> simp [State.SyncInv]

/-- Without `rst` the pad is low in START_LOW (R31, R33). -/
theorem State.pad_low_of_startLow {s : State} (hs : s.state = codeStartLow) (hrst : s.nextInput.rst = false) :
    s.sample.pins.lineI = false := by
  rw [State.sample_pins_lineI, hrst, State.driveLow_eq_decide, decide_eq_true ⟨hs, rfl⟩, padLevel_driven]

/-- Settles O50: a reset leaves IDLE; an operation finds the pad low in START_LOW, whose window R9 makes long enough. -/
theorem everyStepKeepsTheSynchronizerInvariant : Obligations.EveryStepKeepsTheSynchronizerInvariant := by
  unfold Obligations.EveryStepKeepsTheSynchronizerInvariant
  intro s t h hstep
  obtain ⟨⟨⟨hclk, hpulse, -⟩, -⟩, -⟩ := step_next hstep
  have hwin : 2 ≤ s.params.tStartCyc := Nat.le_trans (by omega) (Nat.mul_le_mul hpulse hclk)
  rcases step_cases hstep with ⟨-, rfl⟩ | ⟨hrst, v, hv, rfl⟩
  · exact s.afterBus.applyReset_syncInv
  · exact exec_fsm_syncInv (u := s.afterBus) hwin (fun hs => State.pad_low_of_startLow hs hrst)
      (State.afterBus_syncInv.mpr h) hv

/-! ### Reset (R134, R135) -/

/-- In a reset cycle the line is released and the write is discarded, and the clock edge leaves the values of R35 (R134). -/
theorem State.applyReset_afterBus {s : State} (hrst : s.nextInput.rst = true) :
    s.afterBus.applyReset = { State.reset with
      pins := s.nextInput, busRdata := s.busReadValue s.nextInput, inputs := s.inputs.tail, cycle := s.cycle + 1,
      params := s.params, platform := s.platform } := by
  have hdrive : s.driveLow s.nextInput.rst = false := by rw [s.driveLow_eq_decide, hrst]; simp
  have hstart : s.nextInput.isStart = false := by simp [Input.isStart, hrst]
  simp only [State.afterBus, State.sample, hdrive, padLevel_released, hstart]
  rfl

/-- Settles O31: the cycle resets unless it reads the reserved ERR. -/
theorem resetCycleLeavesTheResetState : Obligations.ResetCycleLeavesTheResetState := by
  unfold Obligations.ResetCycleLeavesTheResetState
  intro s ha hrst hread
  rw [← State.applyReset_afterBus hrst]
  have hno : ¬ (s.err = errReserved ∧ s.nextInput.readsStatus = true) := fun h =>
    hread.elim (fun herr => herr h.1) (fun hreads => by simp [hreads] at h)
  exact step_next_iff.mpr ⟨ha, hno, fsmPhase_of_rst s.afterBus hrst⟩

/-! ### The refused platforms (R138, R145) -/

/-- With accepted parameters another pad wiring is refused before the owners are looked at. -/
theorem step_of_not_padWired {s : State} (hwf : s.params.Wf) (hpad : ¬ s.platform.PadWired) :
    step s = .refused .padWiring := by
  have hr : s.refusal = some .padWiring := (if_neg (not_not.mpr hwf)).trans (if_pos hpad)
  unfold step
  rw [hr]

/-- With accepted parameters and the right pad a second owner is refused. -/
theorem step_of_not_exclusive {s : State} (hwf : s.params.Wf) (hpad : s.platform.PadWired)
    (howner : ¬ s.platform.Exclusive) : step s = .refused .sharedLine := by
  have hr : s.refusal = some .sharedLine :=
    (if_neg (not_not.mpr hwf)).trans ((if_neg (not_not.mpr hpad)).trans (if_pos howner))
  unfold step
  rw [hr]

/-- Settles O7: each wrong field contradicts its conjunct of `Platform.PadWired` or of `Platform.Exclusive`. -/
theorem brokenPlatformIsRefused : Obligations.BrokenPlatformIsRefused := by
  unfold Obligations.BrokenPlatformIsRefused
  refine fun s hwf => ⟨fun hbroken => ?pad, fun hpad hshared => ?owners⟩
  case pad =>
    apply step_of_not_padWired hwf
    rintro ⟨hdrain, hup, hdown, hint⟩
    rcases hbroken with h | h | h | h
    · simp [hdrain] at h
    · simp [hup] at h
    · simp [hdown] at h
    · simp [hint] at h
  case owners =>
    apply step_of_not_exclusive hwf hpad
    rintro ⟨hdriver, hhost⟩
    rcases hshared with h | h
    · simp [hdriver] at h
    · simp [hhost] at h

/-! ### The inter-read interval (R144) -/

/-- The state with another `MIN_INTERVAL_S`. -/
def State.withInterval (n : Nat) (s : State) : State := { s with params := { s.params with minIntervalS := n } }

/-- No operation sees `MIN_INTERVAL_S`. -/
theorem exec_fsm_withInterval {c : Code} {u v : State} (n : Nat) (h : exec (decodeFsm c) u = .next v) :
    exec (decodeFsm c) (u.withInterval n) = .next (v.withInterval n) := by
  rcases decodeFsm_cases c with ⟨-, hd⟩ | ⟨-, hd⟩ | ⟨-, hd⟩ | ⟨-, hd⟩ | ⟨-, hd⟩ | ⟨-, hd⟩ | ⟨-, hd⟩ |
    ⟨-, hd⟩ | ⟨-, hd⟩ | ⟨-, hd | ⟨l, hd⟩ | ⟨l, hd⟩⟩ <;> rw [hd] at h ⊢ <;> cases h
  all_goals -- each of the nine operations branches on the same conditions, to the same states but for `MIN_INTERVAL_S`
    simp only [State.waitFor, apply_ite (State.withInterval n)]
    rfl

/-- The FSM phase does not see `MIN_INTERVAL_S`. -/
theorem fsmPhase_withInterval {u t : State} (n : Nat) (h : fsmPhase u = .next t) :
    fsmPhase (u.withInterval n) = .next (t.withInterval n) := by
  rcases fsmPhase_next h with ⟨hrst, rfl⟩ | ⟨hrst, v, hv, rfl⟩
  · exact fsmPhase_of_rst _ hrst
  · exact fsmPhase_of_exec (u := u.withInterval n) hrst (exec_fsm_withInterval n hv)

/-- The ports and the transaction do not see `MIN_INTERVAL_S`. -/
theorem State.afterBus_withInterval (s : State) (n : Nat) : (s.withInterval n).afterBus = s.afterBus.withInterval n := by
  have hread (r : Reg) : (s.withInterval n).readReg r = s.readReg r := by cases r <;> rfl
  have hvalue (i : Input) : (s.withInterval n).busReadValue i = s.busReadValue i := by
    simp only [State.busReadValue, hread]
  simp only [State.afterBus, hvalue]
  rfl

/-- Settles O46: R9 does not constrain `MIN_INTERVAL_S`, and neither the ports nor the FSM phase see it. -/
theorem interReadIntervalIsNotEnforced : Obligations.InterReadIntervalIsNotEnforced := by
  unfold Obligations.InterReadIntervalIsNotEnforced
  intro s t n h
  obtain ⟨ha, hread, hphase⟩ := step_next_iff.mp h
  have hstep : fsmPhase (s.withInterval n).afterBus = .next (t.withInterval n) :=
    (congrArg fsmPhase (s.afterBus_withInterval n)).trans (fsmPhase_withInterval n hphase)
  exact step_next_iff.mpr ⟨ha, hread, hstep⟩

/-! ### The cycles a read has left (R150) -/

/-- The most cycles that a read takes after its first `received` bits: the windows of the other bits, and CHECK (R150). -/
def cyclesAfterBits (p : Params) (received : Nat) : Nat := (40 - received) * (p.tBlCyc + p.tBhCyc) + 1

/-- The most cycles that a read in flight can still take, the present one included: what is left of the present window, the other
windows up to the end of the bit, and the bits after it (R150). The four handshake states share one count (R92). -/
def State.cyclesLeft (s : State) : Nat :=
  match s.state.toNat with
  | 0 => 0
  | 1 => (s.params.tStartCyc + 1 - s.tcnt) + (s.params.tHsCyc + 3) + cyclesAfterBits s.params 0
  | 2 | 3 | 4 | 5 => (s.params.tHsCyc + 4 - s.tcnt) + cyclesAfterBits s.params 0
  | 6 => (s.params.tBlCyc + 1 - s.tcnt) + s.params.tBhCyc + cyclesAfterBits s.params (s.bitcnt.toNat + 1)
  | 7 => (s.params.tBhCyc + 1 - s.tcnt) + cyclesAfterBits s.params (s.bitcnt.toNat + 1)
  | _ => 1

/-- In START_LOW the rest of the pulse, the handshake and the bits are left. -/
theorem State.cyclesLeft_startLow {s : State} (hs : s.state = codeStartLow) :
    s.cyclesLeft = (s.params.tStartCyc + 1 - s.tcnt) + (s.params.tHsCyc + 3) + cyclesAfterBits s.params 0 := by
  simp [State.cyclesLeft, hs]

/-- In the handshake its rest and the bits are left. -/
theorem State.cyclesLeft_handshake {s : State} (hs : 2 ≤ s.state.toNat ∧ s.state.toNat ≤ 5) :
    s.cyclesLeft = (s.params.tHsCyc + 4 - s.tcnt) + cyclesAfterBits s.params 0 := by
  have hcode : s.state.toNat = 2 ∨ s.state.toNat = 3 ∨ s.state.toNat = 4 ∨ s.state.toNat = 5 := by omega
  rcases hcode with h | h | h | h <;> simp [State.cyclesLeft, h]

/-- In BIT_LOW the rest of the low phase, the high phase and the later bits are left. -/
theorem State.cyclesLeft_bitLow {s : State} (hs : s.state = codeBitLow) :
    s.cyclesLeft =
      (s.params.tBlCyc + 1 - s.tcnt) + s.params.tBhCyc + cyclesAfterBits s.params (s.bitcnt.toNat + 1) := by
  simp [State.cyclesLeft, hs]

/-- In BIT_HIGH the rest of the high phase and the later bits are left. -/
theorem State.cyclesLeft_bitHigh {s : State} (hs : s.state = codeBitHigh) :
    s.cyclesLeft = (s.params.tBhCyc + 1 - s.tcnt) + cyclesAfterBits s.params (s.bitcnt.toNat + 1) := by
  simp [State.cyclesLeft, hs]

/-- In CHECK its one cycle is left. -/
theorem State.cyclesLeft_check {s : State} (hs : s.state = codeCheck) : s.cyclesLeft = 1 := by
  simp [State.cyclesLeft, hs]

/-- A completed read has no cycle left. -/
theorem State.cyclesLeft_complete (s : State) (e : BitVec 2) : (s.complete e).cyclesLeft = 0 := rfl

/-- After any number of bits CHECK is still to come. -/
theorem cyclesAfterBits_pos (p : Params) (n : Nat) : 0 < cyclesAfterBits p n := Nat.succ_pos _

/-- In its first BIT_LOW cycle a bit has its two windows before it. -/
theorem State.cyclesLeft_nextBit {s : State} (hs : s.state = codeBitLow) (hone : s.tcnt = 1) (hmore : s.bitcnt.toNat < 40) :
    s.cyclesLeft = cyclesAfterBits s.params s.bitcnt.toNat := by
  have hbits : 40 - s.bitcnt.toNat = (40 - (s.bitcnt.toNat + 1)) + 1 := by omega
  rw [State.cyclesLeft_bitLow hs, hone, cyclesAfterBits, cyclesAfterBits, hbits, Nat.succ_mul]
  omega

/-! ### Every operation leaves a read fewer cycles -/

/-- A wait leaves fewer cycles when its move and its tick do: its timeout leaves none (R85). -/
theorem State.waitFor_cyclesLeft_lt {s : State} {cond : Bool} {limit n : Nat} {target : Code}
    (hmove : (s.goto target n).cyclesLeft < s.cyclesLeft)
    (htick : s.tcnt < limit → (s.goto s.state (s.tcnt + 1)).cyclesLeft < s.cyclesLeft) :
    (s.waitFor cond limit target n).cyclesLeft < s.cyclesLeft := by
  rcases s.waitFor_cases cond limit target n with ⟨-, hv⟩ | ⟨-, -, hv⟩ | ⟨-, hlt, hv⟩ <;> rw [hv]
  · exact hmove
  · exact Nat.zero_lt_of_lt hmove
  · exact htick hlt

/-- The shared count of the handshake stays below `T_HS_CYC + 4` (R92). -/
theorem State.Inv.handshake_count {s : State} (h : s.Inv) (hs : 2 ≤ s.state.toNat ∧ s.state.toNat ≤ 5) :
    s.tcnt ≤ s.params.tHsCyc + 3 := by
  obtain ⟨-, -, hrelease, hresp, hackLow, hackHigh, -⟩ := h.countLaw
  have hcode : s.state.toNat = 2 ∨ s.state.toNat = 3 ∨ s.state.toNat = 4 ∨ s.state.toNat = 5 := by omega
  rcases hcode with hc | hc | hc | hc
  · exact (hrelease (BitVec.eq_of_toNat_eq hc)).2.trans (by omega)
  · exact (hresp (BitVec.eq_of_toNat_eq hc)).2.trans (by omega)
  · exact (hackLow (BitVec.eq_of_toNat_eq hc)).2.trans (by omega)
  · exact (hackHigh (BitVec.eq_of_toNat_eq hc)).2

/-- Inside the handshake the next count leaves one cycle less. -/
theorem State.Inv.goto_handshake_cyclesLeft_lt {s : State} (h : s.Inv) (hs : 2 ≤ s.state.toNat ∧ s.state.toNat ≤ 5)
    {c : Code} (hc : 2 ≤ c.toNat ∧ c.toNat ≤ 5) : (s.goto c (s.tcnt + 1)).cyclesLeft < s.cyclesLeft := by
  have hcount := h.handshake_count hs
  rw [State.cyclesLeft_handshake hs, State.cyclesLeft_handshake (s := s.goto c (s.tcnt + 1)) hc]
  simp only [State.goto_params, State.goto_tcnt]
  omega

/-- A wait of the handshake leaves fewer cycles when its move does. -/
theorem State.Inv.waitFor_handshake_cyclesLeft_lt {s : State} (h : s.Inv) (hs : 2 ≤ s.state.toNat ∧ s.state.toNat ≤ 5)
    {cond : Bool} {limit n : Nat} {target : Code} (hmove : (s.goto target n).cyclesLeft < s.cyclesLeft) :
    (s.waitFor cond limit target n).cyclesLeft < s.cyclesLeft :=
  State.waitFor_cyclesLeft_lt hmove fun _ => h.goto_handshake_cyclesLeft_lt hs hs

/-- The end of the handshake leaves the windows of the 40 bits, and the present cycle is over. -/
theorem State.Inv.goto_firstBit_cyclesLeft_lt {s : State} (h : s.Inv) (hs : 2 ≤ s.state.toNat ∧ s.state.toNat ≤ 5) :
    (s.goto codeBitLow 1).cyclesLeft < s.cyclesLeft := by
  have hcount := h.handshake_count hs
  obtain ⟨-, -, -, -, ⟨-, hnone, -⟩, -⟩ := h
  have hzero : s.bitcnt = 0#6 := hnone ⟨by omega, hs.2⟩
  rw [State.cyclesLeft_handshake hs, State.cyclesLeft_nextBit rfl rfl (by simp [hzero])]
  simp only [State.goto_params, State.goto_bitcnt, hzero, BitVec.toNat_zero]
  omega

/-- The end of a bit before the last leaves the windows of the bits after it, and the present cycle is over. -/
theorem State.Inv.goto_nextBit_cyclesLeft_lt {s : State} (h : s.Inv) (hs : s.state = codeBitHigh) (b : Bool)
    (hmore : s.bitcnt.toNat + 1 ≠ Config.nBits) : ((s.shiftBit b).goto codeBitLow 1).cyclesLeft < s.cyclesLeft := by
  obtain ⟨-, -, -, -, -, -, -, hhigh, -⟩ := h.countLaw
  have hcount := hhigh hs
  obtain ⟨-, -, -, -, ⟨-, -, hbit, -, hframe⟩, -⟩ := h
  have hlt : s.bitcnt.toNat < Config.nBits := hbit (.inr hs)
  have hcnt : ((s.shiftBit b).goto codeBitLow 1).bitcnt.toNat = s.bitcnt.toNat + 1 :=
    (State.shiftBit_frame_lt b hlt hframe).1
  have hroom : s.bitcnt.toNat + 1 < 40 := Nat.lt_of_le_of_ne hlt hmore
  rw [State.cyclesLeft_bitHigh hs, State.cyclesLeft_nextBit rfl rfl (hcnt ▸ hroom), hcnt]
  simp only [State.goto_params, State.shiftBit_params]
  omega

/-- Every operation of a read in flight leaves it fewer cycles. -/
theorem exec_fsm_cyclesLeft_lt {u v : State} (h : u.Inv) (hbusy : u.state ≠ codeIdle)
    (hv : exec (decodeFsm u.state) u = .next v) : v.cyclesLeft < u.cyclesLeft := by
  obtain ⟨-, hstart, -, -, -, -, hlow, hhigh, -⟩ := h.countLaw
  rcases exec_fsm_next hv with ⟨hs, -⟩ | ⟨hs, rfl⟩ | ⟨hs, rfl⟩ | ⟨hs, rfl⟩ | ⟨hs, rfl⟩ | ⟨hs, rfl⟩ | ⟨hs, rfl⟩ |
    ⟨hs, hbit⟩ | ⟨hs, rfl⟩
  · -- IDLE
    exact absurd hs hbusy
  · -- START_LOW
    have hcount := hstart hs
    rw [State.cyclesLeft_startLow hs]
    split
    · rw [State.cyclesLeft_handshake (by simp)]
      simp only [State.goto_params, State.goto_tcnt]
      omega
    · rw [State.cyclesLeft_startLow (by simp [hs])]
      simp only [State.tick_params, State.tick_tcnt]
      omega
  iterate 3 -- RELEASE, RESP and ACK_LOW
    exact h.waitFor_handshake_cyclesLeft_lt (by simp [hs]) (h.goto_handshake_cyclesLeft_lt (by simp [hs]) (by decide))
  · -- ACK_HIGH
    exact h.waitFor_handshake_cyclesLeft_lt (by simp [hs]) (h.goto_firstBit_cyclesLeft_lt (by simp [hs]))
  · -- BIT_LOW
    have hcount := hlow hs
    refine State.waitFor_cyclesLeft_lt ?rise fun _ => ?tick <;> rw [State.cyclesLeft_bitLow hs]
    case rise =>
      rw [State.cyclesLeft_bitHigh rfl]
      simp only [State.goto_params, State.goto_tcnt, State.goto_bitcnt]
      omega
    case tick =>
      rw [State.cyclesLeft_bitLow (s := u.goto u.state (u.tcnt + 1)) hs]
      simp only [State.goto_params, State.goto_tcnt, State.goto_bitcnt]
      omega
  · -- BIT_HIGH
    have hcount := hhigh hs
    rcases hbit with ⟨-, -, rfl⟩ | ⟨-, -, rfl⟩ | ⟨-, -, rfl⟩ | ⟨-, hmore, rfl⟩
    · rw [State.cyclesLeft_complete, State.cyclesLeft_bitHigh hs]
      omega
    · rw [State.cyclesLeft_bitHigh hs, State.cyclesLeft_bitHigh (by simp [hs])]
      simp only [State.tick_params, State.tick_tcnt, State.tick_bitcnt]
      omega
    · have hcheck := cyclesAfterBits_pos u.params (u.bitcnt.toNat + 1)
      rw [State.cyclesLeft_check rfl, State.cyclesLeft_bitHigh hs]
      omega
    · exact h.goto_nextBit_cyclesLeft_lt hs _ hmore
  · -- CHECK
    rw [State.cyclesLeft_check hs]
    split <;> exact Nat.one_pos

/-! ### Every read completes (R151) -/

/-- A step into an invariant state leaves the machine ready, since the invariant keeps ERR from 3 (R115). -/
theorem State.Ready.of_step {s t : State} (h : s.Ready) (hinv : t.Inv) (hstep : step s = .next t) : t.Ready := by
  obtain ⟨-, -, ⟨-, herr, -⟩, -⟩ := hinv
  obtain ⟨-, -, hparams, hplatform⟩ := step_surroundings hstep
  obtain ⟨v, hv, rfl⟩ := step_operation hstep ((step_pins_rst hstep).trans (s.nextInput_no_reset h.noReset))
  have hinputs : v.inputs = s.inputs.tail := (exec_fsm_sameSurroundings hv).inputs
  refine ⟨?accepted, ?noReset, herr⟩
  case accepted =>
    rw [State.Accepted, hparams, hplatform]
    exact h.accepted
  case noReset =>
    intro i hi
    rw [State.shiftSync_inputs, hinputs] at hi
    exact h.noReset i (List.mem_of_mem_tail hi)

/-- A cycle of a read in flight ends the read, with DONE, or leaves it fewer cycles. -/
theorem State.Ready.step_read {s : State} (h : s.Ready) (hinv : s.Inv) (hbusy : s.state ≠ codeIdle) :
    ∃ t, step s = .next t ∧ t.Ready ∧ t.Inv ∧ t.cyclesLeft < s.cyclesLeft ∧ (t.state = codeIdle → t.done = true) := by
  obtain ⟨t, ht⟩ := invariantStatesAlwaysStep s hinv h.accepted
  have hinv' : t.Inv := everyStepKeepsTheInvariant s t hinv ht
  obtain ⟨v, hv, rfl⟩ := step_operation ht ((step_pins_rst ht).trans (s.nextInput_no_reset h.noReset))
  refine ⟨_, ht, h.of_step hinv' ht, hinv', ?fewer, fun hidle => ?done⟩
  case fewer => exact exec_fsm_cyclesLeft_lt (u := s.afterBus) (v := v) (State.afterBus_inv.mpr hinv) hbusy hv
  case done =>
    rcases exec_fsm_ends (u := s.afterBus) hbusy hv hidle with ⟨-, rfl⟩ | ⟨-, e, -, rfl⟩ <;> rfl

/-- A read in flight completes within the cycles it has left. -/
theorem State.Ready.read_completes {s : State} (h : s.Ready) (hinv : s.Inv) (hbusy : s.state ≠ codeIdle) :
    ∃ (k : Nat) (t : State), k ≤ s.cyclesLeft ∧ 1 ≤ k ∧ core.run k s = .next t ∧ t.state = codeIdle ∧ t.done = true ∧
      t.busy = false := by
  induction hn : s.cyclesLeft using Nat.strong_induction_on generalizing s with
  | _ n ih =>
    subst hn
    obtain ⟨t, hstep, hready, hinv', hfewer, hdone⟩ := h.step_read hinv hbusy
    by_cases hidle : t.state = codeIdle
    · obtain ⟨-, ⟨-, hnotBoth⟩, -⟩ := hinv'
      have hd : t.done = true := hdone hidle
      exact ⟨1, t, by omega, le_rfl, core_run_succ 0 hstep, hidle, hd, by simpa [hd] using hnotBoth⟩
    · obtain ⟨k, u, hk, -, hrun, hend⟩ := ih _ hfewer hready hinv' hidle rfl
      exact ⟨k + 1, u, by omega, by omega, (core_run_succ k hstep).trans hrun, hend⟩

/-- Settles O57: the accepted START leaves a read in flight with exactly the cycles of the bound. -/
theorem everyReadTerminatesWithinTheBound : Obligations.EveryReadTerminatesWithinTheBound := by
  unfold Obligations.EveryReadTerminatesWithinTheBound
  refine ⟨fun s ha hno hidle hstart => ?completes, by decide⟩
  have hstep := step_start ha hidle hstart
  have hinv : s.afterBus.acceptStart.shiftSync.Inv :=
    State.shiftSync_inv.mpr (State.acceptStart_inv (windows_pos_of_wf ha.1).1)
  have hready : s.afterBus.acceptStart.shiftSync.Ready :=
    ⟨ha, fun i hi => hno i (List.mem_of_mem_tail hi), by simp⟩
  obtain ⟨k, t, hk, hpos, hrun, hend⟩ := hready.read_completes hinv (by simp)
  exact ⟨k, t, hk, hpos, (core_run_succ k hstep).trans hrun, hend⟩

end Sys2Proof.Machine
end

section
/-! Proof of the implementation-defined statement (spec/93_implementation_defined.md I20): where the reserved ERR code is observed. -/

namespace Sys2Proof.Machine

/-- Settles O11: RD_STATUS is the read of word index 1, the one read that observes ERR = 3. -/
theorem statusReadOfReservedErrFaults : Obligations.StatusReadOfReservedErrFaults := by
  unfold Obligations.StatusReadOfReservedErrFaults
  intro s herr
  have hrow : decodeBus (txnOf false 1#3) 0#32 = .rdStatus := rfl
  rw [← hrow, exec_read, if_pos ⟨herr, rfl⟩]

end Sys2Proof.Machine
end
